-- ==== Sys2Proof/Word.lean ====
section
/-! DEFINITION. The word types of the block (00_scope.md R10, R11). -/

namespace Sys2Proof

/-- A `u8`: an opcode, a descriptor, a data byte, a delay byte. -/
abbrev Byte := BitVec 8

/-- A `u24` colour table entry: red 23:16, green 15:8, blue 7:0 (10_state.md R36).
PRESUMED, log entry 17: the places of green and blue are the spec's general knowledge. -/
abbrev Rgb := BitVec 24

/-- A `u16` packed pixel in RGB565 (30_encoding.md R101). -/
abbrev Pixel := BitVec 16

/-- A bitmap cell, a palette index of at most 16 bits (00_scope.md R9, `INDEX_BITS ≤ 16`). -/
abbrev Index := BitVec 16

end Sys2Proof
end

