-- ==== Sys2Proof/Config.lean ====
section
/-! DEFINITION. The implementation parameters of 00_scope.md R9. State holds one `Config`, so that a
statement about every state is a statement about every configuration. -/

namespace Sys2Proof

/-- `CHUNKING`, the partition of the frame into data writes (42_compositor.md R177, R178). -/
inductive Chunking where
  /-- One chunk per row, the default of R178. -/
  | perRow
  /-- Another partition, given by the ends `e0, e1, …` of its chunks in rising order. -/
  | endsAt (ends : List Nat)
deriving DecidableEq, Repr

/-- The parameters, one field for each row of R9's table. -/
structure Config where
  scriptMax : Nat
  frameW : Nat
  frameH : Nat
  indexBits : Nat
  palMax : Nat
  numPalettes : Nat
  numBitmaps : Nat
  bmpMaxW : Nat
  bmpMaxH : Nat
  maxLayers : Nat
  coordBits : Nat
  backgroundRgb : Rgb
  pixelBe : Bool
  chunking : Chunking
  opcPixfmt : Byte
  opcMadctl : Byte
deriving DecidableEq, Repr

/-- The number of pixels of a frame, `FRAME_W * FRAME_H` (R102). -/
def Config.framePixels (c : Config) : Nat := c.frameW * c.frameH

/-- The configuration of the machine after reset: configuration A of 95_test_vectors.md.
DESIGN CHOICE, log entry 1, for the parameters R9 leaves open; PRESUMED, log entry 2, for
`OPC_PIXFMT`, `OPC_MADCTL` and `PIXEL_BE`. -/
def Config.default : Config where
  scriptMax := 1024
  frameW := 4
  frameH := 2
  indexBits := 8
  palMax := 256
  numPalettes := 4
  numBitmaps := 4
  bmpMaxW := 16
  bmpMaxH := 16
  maxLayers := 4
  coordBits := 16
  backgroundRgb := 0x000000
  pixelBe := true
  chunking := .perRow
  opcPixfmt := 0x3A
  opcMadctl := 0x36

end Sys2Proof
end

