-- ==== Sys2Proof/Syntax.lean ====
section
/-! DEFINITION. The instructions: the records of the Init Script with their two overlays, and the host
operations (30_encoding.md R100, R103; spec/opcode_table.json). -/

namespace Sys2Proof

/-- A decoded Command Record `{opcode, dataBytes, hasDelay, delayMs}` (30_encoding.md R98);
`delayMs` is present exactly when `hasDelay`. -/
structure Record where
  opcode : Byte
  data : List Byte
  delay : Option Byte
deriving DecidableEq, Repr

/-- An argument of a host request, in the unit R103 gives it. Log entry 11. -/
inductive Arg where
  /-- A handle, index, size, coordinate, count or register number. -/
  | num (n : Nat)
  /-- A signed placement offset. -/
  | offset (z : Int)
  /-- A 24-bit colour. -/
  | rgb (c : Rgb)
  /-- A list of bytes. -/
  | bytes (bs : List Byte)
deriving DecidableEq, Repr

/-- A request of the host: an 8-bit operation code and its arguments in the order of R103.
DESIGN CHOICE, log entry 11: the spec names the arguments and gives them no bit layout. -/
structure HostReq where
  code : Byte
  args : List Arg
deriving DecidableEq, Repr

/-- The instructions, one constructor per row of spec/opcode_table.json. -/
inductive Instr where
  /-- `CMD` (R113), format C. -/
  | cmd (opcode : Byte)
  /-- `CMD_DELAY` (R114), format CD. -/
  | cmdDelay (opcode delayMs : Byte)
  /-- `CMD_DATA` (R115), format CN. -/
  | cmdData (opcode : Byte) (data : List Byte)
  /-- `CMD_DATA_DELAY` (R116), format CND. -/
  | cmdDataDelay (opcode : Byte) (data : List Byte) (delayMs : Byte)
  /-- `SNOOP_PIXFMT` (R120): a record of format CN or CND with opcode `OPC_PIXFMT`. Log entry 12. -/
  | snoopPixfmt (data : List Byte) (delay : Option Byte)
  /-- `SNOOP_MADCTL` (R121): a record of format CN or CND with opcode `OPC_MADCTL`. Log entry 12. -/
  | snoopMadctl (data : List Byte) (delay : Option Byte)
  /-- `LOAD_SCRIPT bytes` (R205). -/
  | loadScript (bytes : List Byte)
  /-- `OPEN` (R206). -/
  | openSession
  /-- `CREATE_PALETTE p, N` (R207). -/
  | createPalette (p n : Nat)
  /-- `WRITE_PALETTE p, i, rgb` (R208). -/
  | writePalette (p i : Nat) (rgb : Rgb)
  /-- `CREATE_BITMAP b, w, h` (R209). -/
  | createBitmap (b w h : Nat)
  /-- `WRITE_CELL b, x, y, v` (R210). -/
  | writeCell (b x y v : Nat)
  /-- `SET_LAYER k, bmp, pal, x0, y0, visible` (R211). -/
  | setLayer (k bmp pal : Nat) (x0 y0 : Int) (visible : Nat)
  /-- `SET_LAYER_COUNT c` (R212). -/
  | setLayerCount (c : Nat)
  /-- `COMMIT` (R214). -/
  | commit
  /-- `READ_REG r` (R213). -/
  | readReg (r : Nat)
deriving DecidableEq, Repr

end Sys2Proof
end

