-- ==== Sys2Proof/WellFormed.lean ====
section
/-! DEFINITION. Which configurations are legal (00_scope.md R9), and which instructions are in the
canonical form their encoding decodes to. -/

namespace Sys2Proof

/-- The ends of a partition into non-empty consecutive chunks from `start` to `total` (R177). -/
def chunkEndsOk : Nat → Nat → List Nat → Bool
  | start, total, [] => start == total
  | start, total, e :: es => decide (start < e) && chunkEndsOk e total es

/-- `CHUNKING` is a partition of the frame (R177). -/
def Chunking.wf (total : Nat) : Chunking → Bool
  | .perRow => true
  | .endsAt ends => chunkEndsOk 0 total ends

/-- Every parameter lies in the legal range of R9. -/
def Config.wf (c : Config) : Bool :=
  decide (c.scriptMax ≤ 65535)
  && decide (1 ≤ c.frameW ∧ c.frameW ≤ 65535) && decide (1 ≤ c.frameH ∧ c.frameH ≤ 65535)
  && decide (1 ≤ c.indexBits ∧ c.indexBits ≤ 16) && decide (c.palMax ≤ 2 ^ c.indexBits)
  && decide (1 ≤ c.numPalettes ∧ c.numPalettes ≤ 256) && decide (1 ≤ c.numBitmaps ∧ c.numBitmaps ≤ 256)
  && decide (1 ≤ c.bmpMaxW ∧ c.bmpMaxW ≤ 65535) && decide (1 ≤ c.bmpMaxH ∧ c.bmpMaxH ≤ 65535)
  && decide (1 ≤ c.maxLayers ∧ c.maxLayers ≤ 255) && decide (2 ≤ c.coordBits ∧ c.coordBits ≤ 32)
  && c.chunking.wf c.framePixels

/-- A Command Record that has an encoding: `len(dataBytes) ≤ 127` (R98). -/
def Record.wf (r : Record) : Bool := decide (r.data.length ≤ 127)

/-- A payload of format CN or CND: 1 to 127 bytes (R93). -/
def payloadOk (data : List Byte) : Bool := decide (1 ≤ data.length ∧ data.length ≤ 127)

/-- An instruction in canonical form under a configuration: what decoding its encoding gives.
A record with data whose opcode is recognised is the overlay's instruction (R97, R100), and where
both recognised opcodes are equal it is `SNOOP_PIXFMT` (log entry 12). A host operation takes every
argument: an argument out of range is answered `ARG_RANGE` when it runs (43_session_host_ops.md R202). -/
def WellFormed (c : Config) : Instr → Bool
  | .cmd _ => true
  | .cmdDelay _ _ => true
  | .cmdData opcode data => payloadOk data && opcode != c.opcPixfmt && opcode != c.opcMadctl
  | .cmdDataDelay opcode data _ => payloadOk data && opcode != c.opcPixfmt && opcode != c.opcMadctl
  | .snoopPixfmt data _ => payloadOk data
  | .snoopMadctl data _ => payloadOk data && c.opcMadctl != c.opcPixfmt
  | .loadScript _ => true
  | .openSession => true
  | .createPalette _ _ => true
  | .writePalette _ _ _ => true
  | .createBitmap _ _ _ => true
  | .writeCell _ _ _ _ => true
  | .setLayer _ _ _ _ _ _ => true
  | .setLayerCount _ => true
  | .commit => true
  | .readReg _ => true

end Sys2Proof
end

