-- ==== Sys2Proof/Decode.lean ====
section
/-! DEFINITION. Decoding and encoding: the records of the Init Script (30_encoding.md R90 to R99,
40_script_records.md R112, R119) and the host requests (R103). Decoding is total and rejects by name. -/

namespace Sys2Proof

/-- Where the stream of bytes ends inside a record (60_exceptions.md R241, codes 1 to 3). -/
inductive Truncation where
  /-- No byte at all; R111 never decodes there. -/
  | noOpcode
  | noDescriptor
  | shortData
  | noDelay
deriving DecidableEq, Repr

/-- Why a packet is no instruction. -/
inductive Reject where
  | truncated (t : Truncation)
  /-- Bytes are left after the record. -/
  | trailingBytes
  /-- An operation code outside R103's table. -/
  | unknownCode
  /-- The arguments are not those R103 names for the code. -/
  | badArguments
deriving DecidableEq, Repr

/-- What reaches the block: the bytes of a record, or a request of the host. -/
inductive Packet where
  | record (bytes : List Byte)
  | request (q : HostReq)
deriving DecidableEq, Repr

/-! ### Records -/

/-- `dataLen`, bits 6:0 of the descriptor (R91). -/
def descLen (desc : Byte) : Nat := (desc.extractLsb' 0 7).toNat

/-- `hasDelay`, bit 7 of the descriptor (R91). -/
def descDelay (desc : Byte) : Bool := desc.getLsbD 7

/-- A record's length `2 + n + d`, told from its first two bytes (R94); a stream shorter than two
bytes is taken whole. -/
def recordSpan : List Byte → Nat
  | _ :: desc :: _ => 2 + descLen desc + (descDelay desc).toNat
  | bs => bs.length

/-- The record at the head of a byte stream and the bytes after it, or the first missing field, in
the order descriptor, data, delay (R112, R245). -/
def decodeRecord : List Byte → Except Truncation (Record × List Byte)
  | [] => .error .noOpcode
  | [_] => .error .noDescriptor
  | opcode :: desc :: rest =>
    if rest.length < descLen desc then .error .shortData
    else if descDelay desc then
      match rest.drop (descLen desc) with
      | [] => .error .noDelay
      | ms :: rest' => .ok (⟨opcode, rest.take (descLen desc), some ms⟩, rest')
    else .ok (⟨opcode, rest.take (descLen desc), none⟩, rest.drop (descLen desc))

/-- A record's length `2 + n + d` in bytes (R94). -/
def Record.length (r : Record) : Nat := 2 + r.data.length + r.delay.isSome.toNat

/-- The instruction of a record: its format row (R93), or the overlay where the opcode is recognised
and there is a data byte (R100). Log entry 12. -/
def classify (c : Config) (r : Record) : Instr :=
  match r.data, r.delay with
  | [], none => .cmd r.opcode
  | [], some ms => .cmdDelay r.opcode ms
  | b :: bs, delay =>
    if r.opcode = c.opcPixfmt then .snoopPixfmt (b :: bs) delay
    else if r.opcode = c.opcMadctl then .snoopMadctl (b :: bs) delay
    else match delay with
      | none => .cmdData r.opcode (b :: bs)
      | some ms => .cmdDataDelay r.opcode (b :: bs) ms

/-- The record a record instruction stands for; a host operation is none. -/
def recordOf (c : Config) : Instr → Option Record
  | .cmd opcode => some ⟨opcode, [], none⟩
  | .cmdDelay opcode ms => some ⟨opcode, [], some ms⟩
  | .cmdData opcode data => some ⟨opcode, data, none⟩
  | .cmdDataDelay opcode data ms => some ⟨opcode, data, some ms⟩
  | .snoopPixfmt data delay => some ⟨c.opcPixfmt, data, delay⟩
  | .snoopMadctl data delay => some ⟨c.opcMadctl, data, delay⟩
  | .loadScript _ => none
  | .openSession => none
  | .createPalette _ _ => none
  | .writePalette _ _ _ => none
  | .createBitmap _ _ _ => none
  | .writeCell _ _ _ _ => none
  | .setLayer _ _ _ _ _ _ => none
  | .setLayerCount _ => none
  | .commit => none
  | .readReg _ => none

/-- Where record `record` of a script is cut short, and the offset of its first byte (R119). -/
structure Malformed where
  record : Nat
  missing : Truncation
  offset : Nat
deriving DecidableEq, Repr

/-- `decodeScript` from record `k` at offset `a`; every record has at least two bytes, so as many
rounds as there are bytes are enough. -/
def decodeScriptFrom : (rounds k a : Nat) → List Byte → Except Malformed (List Record)
  | _, _, _, [] => .ok []
  | 0, k, a, _ :: _ => .error ⟨k, .noOpcode, a⟩
  | rounds + 1, k, a, b :: bs =>
    match decodeRecord (b :: bs) with
    | .error t => .error ⟨k, t, a⟩
    | .ok (r, rest) =>
      match decodeScriptFrom rounds (k + 1) (a + r.length) rest with
      | .error m => .error m
      | .ok rs => .ok (r :: rs)

/-- `decodeScript(s)`: the records in order, or the first record that is cut short (R119). -/
def decodeScript (bytes : List Byte) : Except Malformed (List Record) :=
  decodeScriptFrom bytes.length 0 0 bytes

/-! ### Host requests -/

/-- The instruction of a host request (R103). -/
def decodeRequest (q : HostReq) : Except Reject Instr :=
  if q.code = 0x01#8 then
    match q.args with
    | [.bytes bs] => .ok (.loadScript bs)
    | _ => .error .badArguments
  else if q.code = 0x02#8 then
    match q.args with
    | [] => .ok .openSession
    | _ => .error .badArguments
  else if q.code = 0x03#8 then
    match q.args with
    | [.num p, .num n] => .ok (.createPalette p n)
    | _ => .error .badArguments
  else if q.code = 0x04#8 then
    match q.args with
    | [.num p, .num i, .rgb c] => .ok (.writePalette p i c)
    | _ => .error .badArguments
  else if q.code = 0x05#8 then
    match q.args with
    | [.num b, .num w, .num h] => .ok (.createBitmap b w h)
    | _ => .error .badArguments
  else if q.code = 0x06#8 then
    match q.args with
    | [.num b, .num x, .num y, .num v] => .ok (.writeCell b x y v)
    | _ => .error .badArguments
  else if q.code = 0x07#8 then
    match q.args with
    | [.num k, .num bmp, .num pal, .offset x0, .offset y0, .num vis] => .ok (.setLayer k bmp pal x0 y0 vis)
    | _ => .error .badArguments
  else if q.code = 0x08#8 then
    match q.args with
    | [.num c] => .ok (.setLayerCount c)
    | _ => .error .badArguments
  else if q.code = 0x09#8 then
    match q.args with
    | [] => .ok .commit
    | _ => .error .badArguments
  else if q.code = 0x0A#8 then
    match q.args with
    | [.num r] => .ok (.readReg r)
    | _ => .error .badArguments
  else .error .unknownCode

/-- The instruction of a packet; a record's bytes must be consumed exactly. -/
def decode (c : Config) : Packet → Except Reject Instr
  | .record bytes =>
    match decodeRecord bytes with
    | .error t => .error (.truncated t)
    | .ok (r, []) => .ok (classify c r)
    | .ok (_, _ :: _) => .error .trailingBytes
  | .request q => decodeRequest q

/-! ### Encoding -/

/-- The descriptor `(hasDelay << 7) | dataLen` (R90, R98). -/
def descByte (hasDelay : Bool) (n : Nat) : Byte :=
  ((BitVec.ofBool hasDelay).setWidth 8 <<< 7) ||| BitVec.ofNat 8 n

/-- `encode(rec)` (R98). -/
def encodeRecord (r : Record) : List Byte :=
  [r.opcode, descByte r.delay.isSome r.data.length] ++ r.data ++ r.delay.toList

/-- `encodeScript(recs)` (R98). -/
def encodeScript : List Record → List Byte
  | [] => []
  | r :: rs => encodeRecord r ++ encodeScript rs

/-- The packet of an instruction (R98, R103). -/
def encode (c : Config) : Instr → Packet
  | .cmd opcode => .record (encodeRecord ⟨opcode, [], none⟩)
  | .cmdDelay opcode ms => .record (encodeRecord ⟨opcode, [], some ms⟩)
  | .cmdData opcode data => .record (encodeRecord ⟨opcode, data, none⟩)
  | .cmdDataDelay opcode data ms => .record (encodeRecord ⟨opcode, data, some ms⟩)
  | .snoopPixfmt data delay => .record (encodeRecord ⟨c.opcPixfmt, data, delay⟩)
  | .snoopMadctl data delay => .record (encodeRecord ⟨c.opcMadctl, data, delay⟩)
  | .loadScript bytes => .request ⟨0x01#8, [.bytes bytes]⟩
  | .openSession => .request ⟨0x02#8, []⟩
  | .createPalette p n => .request ⟨0x03#8, [.num p, .num n]⟩
  | .writePalette p i rgb => .request ⟨0x04#8, [.num p, .num i, .rgb rgb]⟩
  | .createBitmap b w h => .request ⟨0x05#8, [.num b, .num w, .num h]⟩
  | .writeCell b x y v => .request ⟨0x06#8, [.num b, .num x, .num y, .num v]⟩
  | .setLayer k bmp pal x0 y0 visible =>
    .request ⟨0x07#8, [.num k, .num bmp, .num pal, .offset x0, .offset y0, .num visible]⟩
  | .setLayerCount n => .request ⟨0x08#8, [.num n]⟩
  | .commit => .request ⟨0x09#8, []⟩
  | .readReg r => .request ⟨0x0A#8, [.num r]⟩

/-! ### The opcode table's words

A record row's word is the 16-bit `W = (S[a] << 8) | S[a+1]` (R100), so the opcode is its bits 15:8 and
is stored first; byte `a + 2 + j` counts on from it as bits `8 (2 + j) + 7 : 8 (2 + j)`. A host row's
word is its 8-bit code. DESIGN CHOICE, log entry 19. -/

/-- The bytes of the record whose table word is `w`. -/
def tableRecordBytes (w : Nat) : List Byte :=
  let desc := BitVec.ofNat 8 w
  [BitVec.ofNat 8 (w / 2 ^ 8), desc]
    ++ (List.range (descLen desc + (descDelay desc).toNat)).map (fun j => BitVec.ofNat 8 (w / 2 ^ (8 * (2 + j))))

/-- Operands of zeros for an operation code. -/
def zeroArgs (code : Byte) : List Arg :=
  if code = 0x01#8 then [.bytes []]
  else if code = 0x03#8 then [.num 0, .num 0]
  else if code = 0x04#8 then [.num 0, .num 0, .rgb 0]
  else if code = 0x05#8 then [.num 0, .num 0, .num 0]
  else if code = 0x06#8 then [.num 0, .num 0, .num 0, .num 0]
  else if code = 0x07#8 then [.num 0, .num 0, .num 0, .offset 0, .offset 0, .num 0]
  else if code = 0x08#8 then [.num 0]
  else if code = 0x0A#8 then [.num 0]
  else []

/-- The packet whose table word is `w`. -/
def tablePacket (nbits w : Nat) : Option Packet :=
  if nbits = 8 then some (.request ⟨BitVec.ofNat 8 w, zeroArgs (BitVec.ofNat 8 w)⟩)
  else if 16 ≤ nbits then some (.record (tableRecordBytes w))
  else none

/-- The instruction the decoder reads from a word of the opcode table, under `Config.default`. -/
def decodeTableWord (nbits w : Nat) : Option Instr :=
  match tablePacket nbits w with
  | none => none
  | some p => (decode Config.default p).toOption

end Sys2Proof
end

