-- ==== Sys2Proof/Machine/State.lean ====
section
/-! DEFINITION. The state of the block (10_state.md), its reset (70_reset_and_hazards.md R270), and the
reasons a step can stop. -/

namespace Sys2Proof.Machine

/-- `SESSION` (10_state.md R24). -/
inductive Session where
  | closed
  | opened
  | failed
deriving DecidableEq, Repr

/-- `BUSY_OP` (R25). -/
inductive BusyOp where
  | idle
  | opening
  | committing
deriving DecidableEq, Repr

/-- `RESULT` (R28, 60_exceptions.md R240). -/
inductive RunResult where
  | none
  | ok
  | malformedScript
  | transportFailure
  | invalidIndex
deriving DecidableEq, Repr

/-- `ERR_FIELD` (R241). -/
inductive ErrField where
  | none
  | descMissing
  | dataShort
  | delayMissing
  | cmdWrite
  | dataWrite
  | delayWait
  | pixelWrite
  | indexRange
deriving DecidableEq, Repr

/-- `TX_MODE`, the command/data select line (R27). -/
inductive TxMode where
  | cmd
  | data
deriving DecidableEq, Repr

/-- A transport request (00_scope.md R15): `TxCmd`, `TxData`, `TxDelay`. -/
inductive TxReq where
  | cmd (b : Byte)
  | data (bs : List Byte)
  | delay (ms : Byte)
deriving DecidableEq, Repr

/-- The transport's answer to a request (R15). -/
inductive Answer where
  | ok
  | fail
deriving DecidableEq, Repr

/-- An entry of the event trace (20_memory.md R63): a request the block has issued, or the answer to
the last one. Log entry 9. -/
inductive TraceEvent where
  | sent (r : TxReq)
  | answered (a : Answer)
deriving DecidableEq, Repr

/-- The response codes of host operations (43_session_host_ops.md R200). -/
inductive RespCode where
  | accepted
  | busy
  | notOpen
  | argRange
deriving DecidableEq, Repr

/-- The answer to a host operation; only `READ_REG` returns a value (R200). -/
structure Response where
  code : RespCode
  value : BitVec 32
deriving DecidableEq, Repr

/-- One move of the world around the block, or of the block itself. Log entry 7. -/
inductive Turn where
  /-- The block takes a step of its own. -/
  | block
  /-- The host issues an operation. -/
  | host (q : HostReq)
  /-- The transport answers the `n`-th request it has received, counted from 1. Log entry 8. -/
  | answer (n : Nat) (a : Answer)
  /-- The block is reset (70_reset_and_hazards.md R271). -/
  | reset
deriving DecidableEq, Repr

/-- Where the block stands inside a run: the steps of 40_script_records.md R123 and the phases of
42_compositor.md. The model's own field, log entry 6. -/
inductive Stage where
  /-- Before a record (R111). -/
  | fetch
  /-- At the record's `TxCmd`. -/
  | cmd
  /-- At the record's `TxData`. -/
  | data
  /-- At the record's `TxDelay`. -/
  | delay
  /-- After the record's last request (R117). -/
  | done
  /-- Before the validation phase (R172). -/
  | validate
  /-- Before the resolve phase (R176). -/
  | resolve
  /-- In the stream phase (R177). -/
  | stream
deriving DecidableEq, Repr

/-- The record latch (10_state.md R26). -/
structure Latch where
  opc : Byte
  nlen : BitVec 7
  dflag : Bool
  dbuf : List Byte
  dms : Byte
deriving DecidableEq, Repr

/-- The error information registers (R33). -/
structure ErrRegs where
  record : BitVec 16 := 0
  field : ErrField := .none
  offset : BitVec 32 := 0
  layer : BitVec 8 := 0
  x : BitVec 16 := 0
  y : BitVec 16 := 0
  value : BitVec 16 := 0
deriving DecidableEq, Repr

/-- Palette p: its entries, of which there are `PAL_N[p]` (R36). -/
structure Palette where
  entries : List Rgb
deriving DecidableEq, Repr

/-- Bitmap b: `BMP_W[b]`, `BMP_H[b]` and its cells row by row, cell (x, y) at place `y * w + x` (R37). -/
structure Bitmap where
  w : Nat
  h : Nat
  cells : List Index
deriving DecidableEq, Repr

/-- A layer slot, a tile placement (R38). -/
structure Placement where
  bmp : Nat
  pal : Nat
  x0 : Int
  y0 : Int
  visible : Bool
deriving DecidableEq, Repr

/-- Script memory: the bytes that have been written, in rising order of offset. -/
abbrev Memory := List Host.Cell

/-- The canonical form: offsets strictly rising. An unlisted offset has no value (log entry 5), so no
entry can equal what an unlisted offset reads as. -/
abbrev Memory.wf (m : Memory) : Prop := m.Pairwise (fun x y => x.1 < y.1)

structure State where
  /-- The configuration; no step changes it (00_scope.md R9). -/
  cfg : Config
  session : Session
  busyOp : BusyOp
  result : RunResult
  /-- `PTR`, the program counter of the Decoder (R22). -/
  ptr : BitVec 16
  recIdx : BitVec 16
  recDone : BitVec 16
  pixSent : BitVec 32
  err : ErrRegs
  cfgPixfmt : Byte
  cfgPixfmtValid : Bool
  cfgMadctl : Byte
  cfgMadctlValid : Bool
  latch : Latch
  txMode : TxMode
  /-- `PENDING` (R41): the request issued and not yet answered. -/
  pending : Option TxReq
  /-- `FRAME` (R41, 42_compositor.md R174). -/
  frame : List Pixel
  /-- `CHUNK_POS` (R41): the pixel index of the next chunk. -/
  chunkPos : Nat
  script : Memory
  scriptLen : BitVec 16
  palettes : List Palette
  bitmaps : List Bitmap
  layers : List Placement
  layerCount : BitVec 8
  /-- The model's own: where the block stands in a run. Log entry 6. -/
  stage : Stage
  /-- The model's own: the line on which the transport's answer arrives. Log entry 8. -/
  reply : Option Answer
  /-- The model's own: who moves next, a free choice. Log entry 7. -/
  turns : List Turn
  /-- The model's own: the event trace so far, oldest first. Log entry 9. -/
  trace : List TraceEvent
  /-- The model's own: the last response to the host. Log entry 10. -/
  response : Option Response
deriving DecidableEq, Repr

/-- Why the machine stops with a fault. Each stops a state that no run reaches, where the spec would
have the block read what it says is never read; all are safe (log entries 5 and 14). -/
inductive Fault where
  /-- The fetch of a record reads a script byte that nothing has written (93_implementation_defined.md
  U3). Raised by `openStep`. Safe. -/
  | scriptUnwritten
  /-- A record would be fetched at a `PTR` beyond `SCRIPT_LEN` (10_state.md R22). Raised by `openStep`.
  Safe. -/
  | ptrPastEnd
  /-- `stage` is none of the run in progress or of the record's format. Raised by `runRecord` and
  `commitStep`. Safe. -/
  | stageMismatch
  /-- The layer stack names an object or a palette entry that does not exist (20_memory.md R74). Raised
  by `validateStack` and `resolveStack`. Safe. -/
  | missingObject
  /-- `FRAME` is shorter than the chunk to send (93_implementation_defined.md U2). Raised by
  `streamChunk`. Safe. -/
  | frameUnresolved
deriving DecidableEq, Repr

/-- Why the model gives a step no meaning. -/
inductive Refusal where
  /-- Raised by an arm of `exec` whose instruction has no meaning yet; no arm is left. Safe. -/
  | notModelled (mnemonic : String)
deriving DecidableEq, Repr

/-- The block after reset, in a given configuration (R270). The latch, `FRAME` and `CHUNK_POS` are
DESIGN CHOICE (log entries 3 and 4); the script bytes have no value (log entry 5). -/
def State.resetWith (c : Config) : State where
  cfg := c
  session := .closed
  busyOp := .idle
  result := .none
  ptr := 0
  recIdx := 0
  recDone := 0
  pixSent := 0
  err := {}
  cfgPixfmt := 0
  cfgPixfmtValid := false
  cfgMadctl := 0
  cfgMadctlValid := false
  latch := ⟨0, 0, false, [], 0⟩
  txMode := .cmd
  pending := none
  frame := []
  chunkPos := 0
  script := []
  scriptLen := 0
  palettes := List.replicate c.numPalettes ⟨[]⟩
  bitmaps := List.replicate c.numBitmaps ⟨0, 0, []⟩
  layers := List.replicate c.maxLayers ⟨0, 0, 0, 0, true⟩
  layerCount := 0
  stage := .fetch
  reply := none
  turns := []
  trace := []
  response := none

/-- The block after reset, in configuration A of 95_test_vectors.md (log entry 1). -/
def State.reset : State := State.resetWith Config.default

end Sys2Proof.Machine
end

