-- ==== Sys2Proof/Machine/Ops.lean ====
section
/-! DEFINITION. The named operations over memory, registers and the transport: the only places where
State is read or written for more than one instruction. -/

namespace Sys2Proof.Machine

/-! ### Script memory (10_state.md R35, 20_memory.md R61) -/

/-- `MemRead(SCRIPT, a, 1)` (00_scope.md R14); an offset nothing has written has no value. -/
def Memory.read : Memory → Nat → Option Byte
  | [], _ => none
  | (k, v) :: m, a => if k = a then some v else Memory.read m a

/-- `MemWrite(SCRIPT, a, 1, b)`, keeping the canonical form. -/
def Memory.write : Memory → Nat → Byte → Memory
  | [], a, b => [(a, b)]
  | (k, v) :: m, a, b =>
    if a < k then (a, b) :: (k, v) :: m
    else if a = k then (a, b) :: m
    else (k, v) :: Memory.write m a b

/-- The bytes of a list at rising offsets from `a` (R205). -/
def Memory.writeBytes : Memory → Nat → List Byte → Memory
  | m, _, [] => m
  | m, a, b :: bs => Memory.writeBytes (Memory.write m a b) (a + 1) bs

/-- `S[a .. a+n)`, none if one of the bytes has no value. -/
def Memory.readBytes (m : Memory) (a : Nat) : Nat → Option (List Byte)
  | 0 => some []
  | n + 1 =>
    match m.read a, Memory.readBytes m (a + 1) n with
    | some b, some bs => some (b :: bs)
    | _, _ => none

/-! ### The host's side -/

/-- The block is busy when `BUSY_OP ≠ IDLE` (10_state.md R25). -/
def State.busy (s : State) : Bool := s.busyOp != .idle

/-- The response to a host operation without a value (43_session_host_ops.md R200). -/
def respond (code : RespCode) (s : State) : State := { s with response := some ⟨code, 0⟩ }

/-- The response of an accepted `READ_REG` (R213). -/
def respondValue (v : BitVec 32) (s : State) : State := { s with response := some ⟨.accepted, v⟩ }

/-- R201: while a run is in progress an operation is answered `BUSY` and changes nothing. -/
def whenIdle (s : State) (op : State → State) : State := if s.busy then respond .busy s else op s

/-- The argument checks of an operation and its effect (R202 (4)). -/
def whenInRange (inRange : Bool) (s : State) (effect : State → State) : State :=
  if inRange then respond .accepted (effect s) else respond .argRange s

/-! ### The transport (00_scope.md R15, 60_exceptions.md R255) -/

/-- `TX_MODE` while a request is issued (10_state.md R27). -/
def TxReq.modeAfter (mode : TxMode) : TxReq → TxMode
  | .cmd _ => .cmd
  | .data _ => .data
  | .delay _ => mode

/-- Issuing a request: the block drives `TX_MODE`, sends, and waits with the request in `PENDING`. -/
def issue (r : TxReq) (s : State) : State :=
  { s with pending := some r, txMode := r.modeAfter s.txMode, trace := s.trace ++ [.sent r] }

/-- Whether an event of the trace is a request. -/
def TraceEvent.isSent : TraceEvent → Bool
  | .sent _ => true
  | .answered _ => false

/-- How many requests the transport has received; the last of them is the pending one, if one is pending.
A reset keeps the trace, so no number is given twice (log entry 8). -/
def State.sentCount (s : State) : Nat := s.trace.countP TraceEvent.isSent

/-- The answer to the pending request arrives. -/
def acknowledge (a : Answer) (s : State) : State :=
  { s with pending := none, reply := none, trace := s.trace ++ [.answered a] }

/-! ### Taking an error (60_exceptions.md R243) -/

/-- The error a run ends with, and the code it has in `RESULT` (R240). -/
def ErrField.result : ErrField → RunResult
  | .none => .none
  | .descMissing => .malformedScript
  | .dataShort => .malformedScript
  | .delayMissing => .malformedScript
  | .cmdWrite => .transportFailure
  | .dataWrite => .transportFailure
  | .delayWait => .transportFailure
  | .pixelWrite => .transportFailure
  | .indexRange => .invalidIndex

/-- `raise E(info)` (R243): the error registers are written as R242's table says (log entry 15), the
run ends, and an OPEN run leaves the session FAILED. There is no return from an error (R247). -/
def raise (info : ErrRegs) (s : State) : State :=
  { s with
    err := info
    result := info.field.result
    session := if s.busyOp = .opening then .failed else s.session
    busyOp := .idle
    pending := none }

/-- What a `MalformedScript` or a `TransportFailure` of an OPEN run records (R242). -/
def recordError (field : ErrField) (s : State) : ErrRegs :=
  { record := s.recIdx, field := field, offset := s.ptr.setWidth 32 }

/-- One request of a run: it is issued; while it has no answer the block waits (R41); on `ok` the run
goes on as `onOk` says, on `fail` it ends with `TransportFailure` (R118, R180). -/
def transact (r : TxReq) (failure : ErrRegs) (onOk : State → State) (s : State) : State :=
  match s.pending with
  | none => issue r s
  | some _ =>
    match s.reply with
    | none => s
    | some .ok => onOk (acknowledge .ok s)
    | some .fail => raise failure (acknowledge .fail s)

/-! ### Runs -/

/-- The start of an OPEN run (40_script_records.md R110). -/
def startOpen (s : State) : State :=
  { s with
    busyOp := .opening, session := .closed, result := .none
    ptr := 0, recIdx := 0, recDone := 0
    cfgPixfmt := 0, cfgPixfmtValid := false, cfgMadctl := 0, cfgMadctlValid := false
    err := {}
    stage := .fetch }

/-- The end of an OPEN run with success (R111). -/
def finishOpen (s : State) : State := { s with session := .opened, result := .ok, busyOp := .idle }

/-- The start of a COMMIT run (42_compositor.md R170). -/
def startCommit (s : State) : State :=
  { s with busyOp := .committing, result := .none, pixSent := 0, err := {}, stage := .validate }

/-- The end of a COMMIT run with success (R177). -/
def finishCommit (s : State) : State := { s with result := .ok, busyOp := .idle }

/-- The block goes on to another stage of the run. -/
def goTo (stage : Stage) (s : State) : State := { s with stage := stage }

/-- Completing a record of length `len` (40_script_records.md R117). -/
def completeRecord (len : Nat) (s : State) : State :=
  { s with
    ptr := s.ptr + BitVec.ofNat 16 len
    recIdx := s.recIdx + 1
    recDone := s.recDone + 1
    stage := .fetch }

/-! ### Fetching a record (R112) -/

/-- The bytes the Decoder reads for the record at `PTR`, never at or beyond `SCRIPT_LEN` (20_memory.md
R61): opcode and descriptor, then as many as the descriptor declares and the script still has. -/
def fetchBytes (s : State) : Option (List Byte) :=
  let a := s.ptr.toNat
  let left := s.scriptLen.toNat - a
  match s.script.readBytes a (min 2 left) with
  | none => none
  | some head => s.script.readBytes a (min (recordSpan head) left)

/-- The latch after R112's decode of the bytes of a record, cut short or not: each part is written when
it has been read, and `DMS` only when the delay flag is set. -/
def latchBytes (bytes : List Byte) (l : Latch) : Latch :=
  match bytes with
  | [] => l
  | [opc] => { l with opc := opc }
  | opc :: desc :: rest =>
    let l' := { l with opc := opc, nlen := desc.extractLsb' 0 7, dflag := descDelay desc }
    if rest.length < descLen desc then l'
    else
      let l'' := { l' with dbuf := rest.take (descLen desc) }
      if descDelay desc then
        match rest.drop (descLen desc) with
        | [] => l''
        | ms :: _ => { l'' with dms := ms }
      else l''

/-- The record the latch holds. -/
def Latch.record (l : Latch) : Record := ⟨l.opc, l.dbuf, if l.dflag then some l.dms else none⟩

/-- The `ERR_FIELD` of a missing field (60_exceptions.md R241). -/
def missingField : Truncation → ErrField
  | .noOpcode => .none
  | .noDescriptor => .descMissing
  | .shortData => .dataShort
  | .noDelay => .delayMissing

end Sys2Proof.Machine
end

