-- ==== Sys2Proof/Machine/Operands.lean ====
section
/-! DEFINITION. The operands: objects named by handle, and the range checks of the host operations
(43_session_host_ops.md R202, R204). -/

namespace Sys2Proof.Machine

/-- `PAL_N[p]` (10_state.md R36). -/
def palN (s : State) (p : Nat) : Nat :=
  match s.palettes[p]? with
  | some pal => pal.entries.length
  | none => 0

/-- `BMP_W[b]` (R37). -/
def bmpW (s : State) (b : Nat) : Nat :=
  match s.bitmaps[b]? with
  | some bmp => bmp.w
  | none => 0

/-- `BMP_H[b]` (R37). -/
def bmpH (s : State) (b : Nat) : Nat :=
  match s.bitmaps[b]? with
  | some bmp => bmp.h
  | none => 0

/-- `PalRead(p, i)` (00_scope.md R14): the entry, if it exists. -/
def palRead? (s : State) (p i : Nat) : Option Rgb :=
  match s.palettes[p]? with
  | some pal => pal.entries[i]?
  | none => none

/-- `BmpRead(b, x, y)` (R14): the cell, if it exists. -/
def bmpRead? (s : State) (b x y : Nat) : Option Index :=
  match s.bitmaps[b]? with
  | some bmp => if x < bmp.w ∧ y < bmp.h then bmp.cells[y * bmp.w + x]? else none
  | none => none

/-- A `COORD_BITS`-bit signed value (43_session_host_ops.md R211). -/
def coordOk (c : Config) (z : Int) : Bool := decide (-(2 ^ (c.coordBits - 1)) ≤ z ∧ z < 2 ^ (c.coordBits - 1))

/-- The argument checks of R205 to R212, one for each operation. -/
def loadScriptOk (s : State) (bytes : List Byte) : Bool := decide (bytes.length ≤ s.cfg.scriptMax)
def createPaletteOk (s : State) (p n : Nat) : Bool := decide (p < s.cfg.numPalettes ∧ n ≤ s.cfg.palMax)
def writePaletteOk (s : State) (p i : Nat) : Bool := decide (p < s.cfg.numPalettes ∧ i < palN s p)
def createBitmapOk (s : State) (b w h : Nat) : Bool :=
  decide (b < s.cfg.numBitmaps ∧ w ≤ s.cfg.bmpMaxW ∧ h ≤ s.cfg.bmpMaxH)
def writeCellOk (s : State) (b x y v : Nat) : Bool :=
  decide (b < s.cfg.numBitmaps ∧ x < bmpW s b ∧ y < bmpH s b ∧ v < 2 ^ s.cfg.indexBits)
def setLayerOk (s : State) (k bmp pal : Nat) (x0 y0 : Int) (visible : Nat) : Bool :=
  decide (k < s.cfg.maxLayers ∧ bmp < s.cfg.numBitmaps ∧ pal < s.cfg.numPalettes)
  && coordOk s.cfg x0 && coordOk s.cfg y0 && decide (visible = 0 ∨ visible = 1)
def setLayerCountOk (s : State) (n : Nat) : Bool := decide (n ≤ s.cfg.maxLayers)

/-- `LOAD_SCRIPT`'s effect (R205): the bytes from offset 0, and the length; bytes beyond stay. -/
def loadBytes (bytes : List Byte) (s : State) : State :=
  { s with script := s.script.writeBytes 0 bytes, scriptLen := BitVec.ofNat 16 bytes.length }

/-- Palette `p` becomes `pal`. -/
def putPalette (p : Nat) (pal : Palette) (s : State) : State := { s with palettes := s.palettes.set p pal }

/-- Bitmap `b` becomes `bmp`. -/
def putBitmap (b : Nat) (bmp : Bitmap) (s : State) : State := { s with bitmaps := s.bitmaps.set b bmp }

/-- `PAL[p][i] <- rgb` (R208). -/
def putEntry (p i : Nat) (rgb : Rgb) (s : State) : State :=
  match s.palettes[p]? with
  | some pal => putPalette p ⟨pal.entries.set i rgb⟩ s
  | none => s

/-- `BMP[b][x, y] <- v` (R210). -/
def putCell (b x y v : Nat) (s : State) : State :=
  match s.bitmaps[b]? with
  | some bmp => putBitmap b { bmp with cells := bmp.cells.set (y * bmp.w + x) (BitVec.ofNat 16 v) } s
  | none => s

/-- `LAYER[k] <- l` (R211). -/
def putLayer (k : Nat) (l : Placement) (s : State) : State := { s with layers := s.layers.set k l }

/-- `LAYER_COUNT <- n` (R212). -/
def putLayerCount (n : Nat) (s : State) : State := { s with layerCount := BitVec.ofNat 8 n }

end Sys2Proof.Machine
end

