-- ==== Sys2Proof/Machine/Flags.lean ====
section
/-! DEFINITION. The flags and the registers the host reads: the configuration capture with its valid
bits (40_script_records.md R120, R121; 10_state.md R40) and the register map r0 to r12 (R39). -/

namespace Sys2Proof.Machine

/-- `SNOOP_PIXFMT`'s capture of a record whose data was answered `ok` (R120). -/
def capturePixfmt (opcode : Byte) (data : List Byte) (s : State) : State :=
  match data with
  | [] => s
  | b :: _ => if opcode = s.cfg.opcPixfmt then { s with cfgPixfmt := b, cfgPixfmtValid := true } else s

/-- `SNOOP_MADCTL`'s capture (R121). -/
def captureMadctl (opcode : Byte) (data : List Byte) (s : State) : State :=
  match data with
  | [] => s
  | b :: _ => if opcode = s.cfg.opcMadctl then { s with cfgMadctl := b, cfgMadctlValid := true } else s

/-- "capture (rule R120, rule R121)" of R115 and R116; both happen where both opcodes are equal (R121). -/
def capture (opcode : Byte) (data : List Byte) (s : State) : State :=
  captureMadctl opcode data (capturePixfmt opcode data s)

/-! ### Codes of the named values -/

/-- `SESSION`'s code (R24). -/
def Session.code : Session → BitVec 32
  | .closed => 0
  | .opened => 1
  | .failed => 2

/-- `BUSY_OP`'s code (R25). -/
def BusyOp.code : BusyOp → BitVec 32
  | .idle => 0
  | .opening => 1
  | .committing => 2

/-- `RESULT`'s code (R28). -/
def RunResult.code : RunResult → BitVec 32
  | .none => 0
  | .ok => 1
  | .malformedScript => 2
  | .transportFailure => 3
  | .invalidIndex => 4

/-- `ERR_FIELD`'s code (60_exceptions.md R241). -/
def ErrField.code : ErrField → BitVec 32
  | .none => 0
  | .descMissing => 1
  | .dataShort => 2
  | .delayMissing => 3
  | .cmdWrite => 4
  | .dataWrite => 5
  | .delayWait => 6
  | .pixelWrite => 7
  | .indexRange => 8

/-- A response's code (43_session_host_ops.md R200). -/
def RespCode.code : RespCode → Nat
  | .accepted => 0
  | .busy => 1
  | .notOpen => 2
  | .argRange => 3

/-- A value placed at bit `lo` of a register. -/
def fieldAt {w : Nat} (lo : Nat) (v : BitVec w) : BitVec 32 := v.setWidth 32 <<< lo

/-- The value of register `r` (R39); a number above 12 names none and gives 0 (R213). -/
def regValue (s : State) (r : Nat) : BitVec 32 :=
  match r with
  | 0 => s.session.code ||| fieldAt 2 s.busyOp.code ||| fieldAt 4 s.result.code
  | 1 => fieldAt 0 s.err.record ||| fieldAt 16 s.err.field.code
  | 2 => s.err.offset
  | 3 => fieldAt 0 s.err.x ||| fieldAt 16 s.err.y
  | 4 => fieldAt 0 s.err.layer
  | 5 => fieldAt 0 s.err.value
  | 6 => fieldAt 0 s.recDone
  | 7 => s.pixSent
  | 8 => fieldAt 0 (BitVec.ofNat 16 s.cfg.frameW) ||| fieldAt 16 (BitVec.ofNat 16 s.cfg.frameH)
  | 9 =>
    fieldAt 0 s.cfgPixfmt ||| fieldAt 8 (BitVec.ofBool s.cfgPixfmtValid)
      ||| fieldAt 16 s.cfgMadctl ||| fieldAt 24 (BitVec.ofBool s.cfgMadctlValid)
  | 10 => 16
  | 11 => fieldAt 0 s.scriptLen
  | 12 => fieldAt 0 s.layerCount
  | _ => 0

end Sys2Proof.Machine
end

