-- ==== Sys2Proof/Machine/HostOps.lean ====
section
/-! DEFINITION. The meanings of the ten host operations (43_session_host_ops.md R205 to R214). Each
answers the host at once; a rejected one changes nothing else (R200). -/

namespace Sys2Proof.Machine

open Host (Outcome)

/-- `LOAD_SCRIPT bytes` (R205). -/
def execLoadScript (bytes : List Byte) (s : State) : Outcome State Fault Refusal :=
  .next (whenIdle s (fun s => whenInRange (loadScriptOk s bytes) s (loadBytes bytes)))

/-- `OPEN` (R206): the run starts (40_script_records.md R110). -/
def execOpenSession (s : State) : Outcome State Fault Refusal :=
  .next (whenIdle s (fun s => respond .accepted (startOpen s)))

/-- `CREATE_PALETTE p, N` (R207): N zero entries. -/
def execCreatePalette (p n : Nat) (s : State) : Outcome State Fault Refusal :=
  .next (whenIdle s (fun s =>
    whenInRange (createPaletteOk s p n) s (putPalette p ⟨List.replicate n 0⟩)))

/-- `WRITE_PALETTE p, i, rgb` (R208). -/
def execWritePalette (p i : Nat) (rgb : Rgb) (s : State) : Outcome State Fault Refusal :=
  .next (whenIdle s (fun s => whenInRange (writePaletteOk s p i) s (putEntry p i rgb)))

/-- `CREATE_BITMAP b, w, h` (R209): w * h zero cells. -/
def execCreateBitmap (b w h : Nat) (s : State) : Outcome State Fault Refusal :=
  .next (whenIdle s (fun s =>
    whenInRange (createBitmapOk s b w h) s (putBitmap b ⟨w, h, List.replicate (w * h) 0⟩)))

/-- `WRITE_CELL b, x, y, v` (R210). -/
def execWriteCell (b x y v : Nat) (s : State) : Outcome State Fault Refusal :=
  .next (whenIdle s (fun s => whenInRange (writeCellOk s b x y v) s (putCell b x y v)))

/-- `SET_LAYER k, bmp, pal, x0, y0, visible` (R211). -/
def execSetLayer (k bmp pal : Nat) (x0 y0 : Int) (visible : Nat) (s : State) :
    Outcome State Fault Refusal :=
  .next (whenIdle s (fun s =>
    whenInRange (setLayerOk s k bmp pal x0 y0 visible) s (putLayer k ⟨bmp, pal, x0, y0, visible == 1⟩)))

/-- `SET_LAYER_COUNT c` (R212). -/
def execSetLayerCount (n : Nat) (s : State) : Outcome State Fault Refusal :=
  .next (whenIdle s (fun s => whenInRange (setLayerCountOk s n) s (putLayerCount n)))

/-- `COMMIT` (R214): accepted only in an open session, the run starts (42_compositor.md R170). -/
def execCommit (s : State) : Outcome State Fault Refusal :=
  .next (whenIdle s (fun s =>
    if s.session = .opened then respond .accepted (startCommit s) else respond .notOpen s))

/-- `READ_REG r` (R213): accepted during a run too. -/
def execReadReg (r : Nat) (s : State) : Outcome State Fault Refusal :=
  .next (if r ≤ 12 then respondValue (regValue s r) s else respond .argRange s)

end Sys2Proof.Machine
end

