-- ==== Sys2Proof/Machine/Records.lean ====
section
/-! DEFINITION. The meanings of the six record instructions (40_script_records.md R113 to R121). A
meaning is one block step of its record (R123): issuing a request, taking its answer, or completing. -/

namespace Sys2Proof.Machine

open Host (Outcome)

/-- The stage after the command write (R113 to R116). -/
def stageAfterCmd (r : Record) : Stage :=
  match r.data, r.delay with
  | _ :: _, _ => .data
  | [], some _ => .delay
  | [], none => .done

/-- The stage after the data write. -/
def stageAfterData (r : Record) : Stage :=
  match r.delay with
  | some _ => .delay
  | none => .done

/-- The block step of a record at the current stage: the pseudocode R113 to R116 have in common, in
which an absent payload or delay has no request. -/
def runRecord (r : Record) (s : State) : Outcome State Fault Refusal :=
  match s.stage with
  | .cmd => .next (transact (.cmd r.opcode) (recordError .cmdWrite s) (goTo (stageAfterCmd r)) s)
  | .data =>
    match r.data with
    | [] => .fault .stageMismatch
    | b :: bs =>
      .next (transact (.data (b :: bs)) (recordError .dataWrite s)
        (fun t => goTo (stageAfterData r) (capture r.opcode (b :: bs) t)) s)
  | .delay =>
    match r.delay with
    | none => .fault .stageMismatch
    | some ms => .next (transact (.delay ms) (recordError .delayWait s) (goTo .done) s)
  | .done => .next (completeRecord r.length s)
  | .fetch => .fault .stageMismatch
  | .validate => .fault .stageMismatch
  | .resolve => .fault .stageMismatch
  | .stream => .fault .stageMismatch

/-- `CMD` (R113). -/
def execCmd (opcode : Byte) (s : State) : Outcome State Fault Refusal := runRecord ⟨opcode, [], none⟩ s

/-- `CMD_DELAY` (R114). -/
def execCmdDelay (opcode delayMs : Byte) (s : State) : Outcome State Fault Refusal :=
  runRecord ⟨opcode, [], some delayMs⟩ s

/-- `CMD_DATA` (R115). -/
def execCmdData (opcode : Byte) (data : List Byte) (s : State) : Outcome State Fault Refusal :=
  runRecord ⟨opcode, data, none⟩ s

/-- `CMD_DATA_DELAY` (R116). -/
def execCmdDataDelay (opcode : Byte) (data : List Byte) (delayMs : Byte) (s : State) :
    Outcome State Fault Refusal :=
  runRecord ⟨opcode, data, some delayMs⟩ s

/-- `SNOOP_PIXFMT` (R120): the record's format rule with opcode `OPC_PIXFMT`, whose data write captures
`CFG_PIXFMT`. -/
def execSnoopPixfmt (data : List Byte) (delay : Option Byte) (s : State) : Outcome State Fault Refusal :=
  runRecord ⟨s.cfg.opcPixfmt, data, delay⟩ s

/-- `SNOOP_MADCTL` (R121): the record's format rule with opcode `OPC_MADCTL`, whose data write captures
`CFG_MADCTL`. -/
def execSnoopMadctl (data : List Byte) (delay : Option Byte) (s : State) : Outcome State Fault Refusal :=
  runRecord ⟨s.cfg.opcMadctl, data, delay⟩ s

end Sys2Proof.Machine
end

