-- ==== Sys2Proof/Machine/Dispatch.lean ====
section
/-! DEFINITION. One arm per instruction. -/

namespace Sys2Proof.Machine

def exec (i : Instr) (s : State) : Host.Outcome State Fault Refusal :=
  match i with
  | .cmd opcode => Sys2Proof.Machine.execCmd opcode s
  | .cmdDelay opcode delayMs => Sys2Proof.Machine.execCmdDelay opcode delayMs s
  | .cmdData opcode data => Sys2Proof.Machine.execCmdData opcode data s
  | .cmdDataDelay opcode data delayMs => Sys2Proof.Machine.execCmdDataDelay opcode data delayMs s
  | .snoopPixfmt data delay => Sys2Proof.Machine.execSnoopPixfmt data delay s
  | .snoopMadctl data delay => Sys2Proof.Machine.execSnoopMadctl data delay s
  | .loadScript bytes => Sys2Proof.Machine.execLoadScript bytes s
  | .openSession => Sys2Proof.Machine.execOpenSession s
  | .createPalette p n => Sys2Proof.Machine.execCreatePalette p n s
  | .writePalette p j rgb => Sys2Proof.Machine.execWritePalette p j rgb s
  | .createBitmap b w h => Sys2Proof.Machine.execCreateBitmap b w h s
  | .writeCell b x y v => Sys2Proof.Machine.execWriteCell b x y v s
  | .setLayer k bmp pal x0 y0 visible => Sys2Proof.Machine.execSetLayer k bmp pal x0 y0 visible s
  | .setLayerCount n => Sys2Proof.Machine.execSetLayerCount n s
  | .commit => Sys2Proof.Machine.execCommit s
  | .readReg r => Sys2Proof.Machine.execReadReg r s

end Sys2Proof.Machine
end

