-- ==== Sys2Proof/Machine/Packer.lean ====
section
/-! DEFINITION. The Packer (41_pixel_packer.md): pure functions from colours to bytes. -/

namespace Sys2Proof.Machine

/-- `pack565(c)` (R151): the top 5, 6 and 5 bits of red, green and blue, red highest (30_encoding.md
R101; PRESUMED by the spec, log entry 17). -/
def pack565 (c : Rgb) : Pixel :=
  (c.extractLsb' 19 5).setWidth 16 <<< 11 ||| (c.extractLsb' 10 6).setWidth 16 <<< 5
    ||| (c.extractLsb' 3 5).setWidth 16

/-- `unpack565(p)` (R154): each field in the top bits of its channel. The block never computes it. -/
def unpack565 (p : Pixel) : Rgb :=
  (p.extractLsb' 11 5).setWidth 24 <<< 19 ||| (p.extractLsb' 5 6).setWidth 24 <<< 10
    ||| (p.extractLsb' 0 5).setWidth 24 <<< 3

/-- `pixelBytes(p)` (R155): high byte first when `PIXEL_BE`. -/
def pixelBytes (be : Bool) (p : Pixel) : List Byte :=
  if be then [p.extractLsb' 8 8, p.extractLsb' 0 8] else [p.extractLsb' 0 8, p.extractLsb' 8 8]

/-- `frameBytes(F)` (R155). -/
def frameBytes (be : Bool) : List Pixel → List Byte
  | [] => []
  | p :: ps => pixelBytes be p ++ frameBytes be ps

end Sys2Proof.Machine
end

