-- ==== Sys2Proof/Machine/Resolver.lean ====
section
/-! DEFINITION. The Resolver and the frame stream: the block steps of a COMMIT run (42_compositor.md). -/

namespace Sys2Proof.Machine

open Host (Outcome)

/-- The stack: slots `0 … LAYER_COUNT-1`, back to front (10_state.md R38). -/
def stack (s : State) : List Placement := s.layers.take s.layerCount.toNat

/-- `covers` for the placement `l` and surface cell (X, Y), on unbounded integers (R171). -/
def covers (s : State) (l : Placement) (X Y : Nat) : Bool :=
  l.visible && decide (l.x0 ≤ X ∧ (X : Int) < l.x0 + bmpW s l.bmp)
    && decide (l.y0 ≤ Y ∧ (Y : Int) < l.y0 + bmpH s l.bmp)

/-- The topmost covering placement: the last one of the stack that covers the cell (R173). -/
def topmost (s : State) (X Y : Nat) : Option Placement :=
  (stack s).foldl (fun top l => if covers s l X Y then some l else top) none

/-- `resolve(X, Y)` (R173). The reads exist once the stack has passed `firstInvalid` (R74), so the
colour 0 of a missing one is never used. -/
def resolve (s : State) (X Y : Nat) : Rgb :=
  match topmost s X Y with
  | none => s.cfg.backgroundRgb
  | some l =>
    match bmpRead? s l.bmp (X - l.x0).toNat (Y - l.y0).toNat with
    | none => 0
    | some v => (palRead? s l.pal v.toNat).getD 0

/-- `FRAME` (R174), raster order. -/
def resolveFrame (s : State) : List Pixel :=
  (List.range s.cfg.framePixels).map (fun i => pack565 (resolve s (i % s.cfg.frameW) (i / s.cfg.frameW)))

/-- An invalid cell: its slot, its place and its index. -/
structure BadCell where
  layer : Nat
  x : Nat
  y : Nat
  value : Index
deriving DecidableEq, Repr

/-- The first cell of slot `k`'s bitmap, row by row, whose index is not below its palette's size. -/
def firstInvalidCell (s : State) (k : Nat) (l : Placement) : Option BadCell :=
  match s.bitmaps[l.bmp]? with
  | none => none
  | some bmp =>
    bmp.cells.zipIdx.findSome? (fun (v, i) =>
      if palN s l.pal ≤ v.toNat then some ⟨k, i % bmp.w, i / bmp.w, v⟩ else none)

/-- R172: the first invalid cell in the order slot, row, column. -/
def firstInvalid (s : State) : Option BadCell :=
  (stack s).zipIdx.findSome? (fun (l, k) => firstInvalidCell s k l)

/-- What `InvalidIndex` records (60_exceptions.md R242). -/
def invalidIndex (c : BadCell) : ErrRegs :=
  { field := .indexRange, layer := BitVec.ofNat 8 c.layer, x := BitVec.ofNat 16 c.x,
    y := BitVec.ofNat 16 c.y, value := c.value }

/-- Every slot of the stack exists and names an existing palette and an existing bitmap with all its
cells (43_session_host_ops.md R204). -/
def stackObjectsExist (s : State) : Bool :=
  decide (s.layerCount.toNat ≤ s.layers.length)
  && (stack s).all (fun l =>
    decide (l.pal < s.palettes.length)
    && match s.bitmaps[l.bmp]? with
      | none => false
      | some bmp => bmp.cells.length == bmp.w * bmp.h)

/-- `FRAME` is computed and `CHUNK_POS <- 0` (R176). -/
def storeFrame (s : State) : State := { s with frame := resolveFrame s, chunkPos := 0, stage := .stream }

/-- The validation phase (R172): the run ends with the first invalid cell, or goes on to be resolved. -/
def validateStack (s : State) : Outcome State Fault Refusal :=
  if stackObjectsExist s then
    match firstInvalid s with
    | some c => .next (raise (invalidIndex c) s)
    | none => .next (goTo .resolve s)
  else .fault .missingObject

/-- The resolve phase (R176), of a stack that has passed validation. -/
def resolveStack (s : State) : Outcome State Fault Refusal :=
  if stackObjectsExist s && firstInvalid s == none then .next (storeFrame s) else .fault .missingObject

/-- The end of the chunk of `CHUNKING` that begins at pixel `pos` (R177, R178). -/
def chunkEnd (c : Config) (pos : Nat) : Nat :=
  match c.chunking with
  | .perRow => (pos / c.frameW + 1) * c.frameW
  | .endsAt ends =>
    match ends.find? (fun e => pos < e) with
    | some e => min e c.framePixels
    | none => c.framePixels

/-- The bytes of the chunk of pixels `[a, b)` of the frame (R177). -/
def chunkBytes (s : State) (a b : Nat) : List Byte :=
  frameBytes s.cfg.pixelBe ((s.frame.drop a).take (b - a))

/-- What a failed chunk from pixel `a` records (R177, 60_exceptions.md R242). -/
def chunkError (a : Nat) : ErrRegs := { field := .pixelWrite, offset := BitVec.ofNat 32 a }

/-- `PIX_SENT <- e; CHUNK_POS <- e` (R177). -/
def chunkSent (e : Nat) (s : State) : State := { s with pixSent := BitVec.ofNat 32 e, chunkPos := e }

/-- One block step of the stream phase (R177): the end of the run, or the chunk at `CHUNK_POS`. -/
def streamChunk (s : State) : Outcome State Fault Refusal :=
  let a := s.chunkPos
  let e := chunkEnd s.cfg a
  if s.cfg.framePixels ≤ a then .next (finishCommit s)
  else if s.frame.length < e then .fault .frameUnresolved
  else .next (transact (.data (chunkBytes s a e)) (chunkError a) (chunkSent e) s)

/-- One block step of a COMMIT run. -/
def commitStep (s : State) : Outcome State Fault Refusal :=
  match s.stage with
  | .validate => validateStack s
  | .resolve => resolveStack s
  | .stream => streamChunk s
  | .fetch => .fault .stageMismatch
  | .cmd => .fault .stageMismatch
  | .data => .fault .stageMismatch
  | .delay => .fault .stageMismatch
  | .done => .fault .stageMismatch

end Sys2Proof.Machine
end

