-- ==== Sys2Proof/Machine/Sequencer.lean ====
section
/-! DEFINITION. The machine's moves: the block steps of an OPEN run (40_script_records.md R111, R112,
R123), the host's, the transport's and the reset's turns; and the placing of a word for the next step. -/

namespace Sys2Proof.Machine

open Host (Outcome)

/-- The state in which the record of `bytes` has been decoded into the latch (R112). -/
def latchRecord (bytes : List Byte) (s : State) : State :=
  { s with latch := latchBytes bytes s.latch, stage := .cmd }

/-- The internal decode step (R112, R123) for the bytes fetched at `PTR`: the latch holds the record, which
goes on to its command write, or the script is malformed. -/
def decodeStep (bytes : List Byte) (s : State) : Outcome State Fault Refusal :=
  match decodeRecord bytes with
  | .ok _ => .next (latchRecord bytes s)
  | .error .noOpcode => .fault .ptrPastEnd
  | .error .noDescriptor => .next (raise (recordError .descMissing s) { s with latch := latchBytes bytes s.latch })
  | .error .shortData => .next (raise (recordError .dataShort s) { s with latch := latchBytes bytes s.latch })
  | .error .noDelay => .next (raise (recordError .delayMissing s) { s with latch := latchBytes bytes s.latch })

/-- One block step of an OPEN run (R123): before a record the run ends or the record at `PTR` is decoded
(R111, R112); inside a record the latched instruction runs. -/
def openStep (s : State) : Outcome State Fault Refusal :=
  match s.stage with
  | .fetch =>
    if s.ptr = s.scriptLen then .next (finishOpen s)
    else
      match fetchBytes s with
      | none => .fault .scriptUnwritten
      | some bytes => decodeStep bytes s
  | .cmd => exec (classify s.cfg s.latch.record) s
  | .data => exec (classify s.cfg s.latch.record) s
  | .delay => exec (classify s.cfg s.latch.record) s
  | .done => exec (classify s.cfg s.latch.record) s
  | .validate => .fault .stageMismatch
  | .resolve => .fault .stageMismatch
  | .stream => .fault .stageMismatch

/-- A step of the block by itself. Idle, it does nothing (70_reset_and_hazards.md R272). -/
def blockStep (s : State) : Outcome State Fault Refusal :=
  match s.busyOp with
  | .idle => .next s
  | .opening => openStep s
  | .committing => commitStep s

/-- The transport's turn (60_exceptions.md R255): its answer to the pending request is taken at once. An
answer to any other request, such as one that a reset has abandoned, changes nothing, whatever is pending
now (70_reset_and_hazards.md R271; log entry 8). -/
def answerStep (n : Nat) (a : Answer) (s : State) : Outcome State Fault Refusal :=
  match s.pending with
  | none => .next s
  | some _ => if n = s.sentCount then blockStep { s with reply := some a } else .next s

/-- The response to a request whose arguments are not those of its code, in the order of
43_session_host_ops.md R202. DESIGN CHOICE, log entry 11. -/
def badArgumentsCode (code : Byte) (s : State) : RespCode :=
  if s.busy && code != 0x0A#8 then .busy
  else if code = 0x09#8 ∧ s.session ≠ .opened then .notOpen
  else .argRange

/-- The host's turn: an unknown code is answered `ARG_RANGE` before anything else (R202). -/
def hostStep (q : HostReq) (s : State) : Outcome State Fault Refusal :=
  match decodeRequest q with
  | .ok i => exec i s
  | .error .badArguments => .next (respond (badArgumentsCode q.code s) s)
  | .error .unknownCode => .next (respond .argRange s)
  | .error (.truncated _) => .next (respond .argRange s)
  | .error .trailingBytes => .next (respond .argRange s)

/-- The reset's turn (70_reset_and_hazards.md R270, R271): what the transport has received stays
received, and the world's coming turns are the world's (log entries 7 and 9). -/
def resetStep (s : State) : State :=
  { State.resetWith s.cfg with trace := s.trace, turns := s.turns }

/-- One step of the machine: the next turn, or the block's own step when no turn is listed. -/
def nextStep (s : State) : Outcome State Fault Refusal :=
  match s.turns with
  | [] => blockStep s
  | .block :: ts => blockStep { s with turns := ts }
  | .host q :: ts => hostStep q { s with turns := ts }
  | .answer n a :: ts => answerStep n a { s with turns := ts }
  | .reset :: ts => .next (resetStep { s with turns := ts })

/-- The record of `bytes` as the last of the script, at `PTR` (or at offset 0 where it does not fit
behind `PTR`), in an OPEN run that stands before it. -/
def placeScript (bytes : List Byte) (s : State) : State :=
  let a := if s.ptr.toNat + bytes.length ≤ s.cfg.scriptMax then s.ptr.toNat else 0
  { s with
    ptr := BitVec.ofNat 16 a
    script := s.script.writeBytes a bytes
    scriptLen := BitVec.ofNat 16 (a + bytes.length)
    busyOp := .opening, stage := .fetch, pending := none, reply := none
    turns := .block :: s.turns }

/-- The same after the record's decode step (R112), so that the next step runs the record; bytes that are
no whole record stay before it. -/
def placeRecord (bytes : List Byte) (s : State) : State :=
  match decodeRecord bytes with
  | .ok _ => latchRecord bytes (placeScript bytes s)
  | .error _ => placeScript bytes s

/-- A packet placed so that the very next step runs it. Log entry 18. -/
def placePacket (p : Packet) (s : State) : State :=
  match p with
  | .record bytes => placeRecord bytes s
  | .request q => { s with turns := .host q :: s.turns }

end Sys2Proof.Machine
end

