-- ==== Sys2Proof/Machine/Step.lean ====
section
/-! DEFINITION. The step of the machine, and the placing of a word of the opcode table for it. -/

namespace Sys2Proof.Machine

/-- One step. -/
def step (s : State) : Host.Outcome State Fault Refusal := nextStep s

/-- `s` with the instruction of the table word `w` placed where the next step takes its instruction:
a record in script memory at `PTR`, decoded into the latch, in an OPEN run; a host operation as the next
turn. Log entry 18. -/
def State.withFetchWord (s : State) (nbits w : Nat) : State :=
  match tablePacket nbits w with
  | none => s
  | some p => placePacket p s

end Sys2Proof.Machine
end

