-- ==== Sys2Proof/Safety.lean ====
section
/-! DEFINITION. What counts as a safe run: the legal states (an invariant of the machine), runs of many
steps, and the vocabulary in which claims speak of a run's requests and turns. -/

namespace Sys2Proof.Machine

open Host (Outcome)

/-! ### Legal states -/

/-- The latch holds the record that stands at `PTR`, whole and below `SCRIPT_LEN` (10_state.md R22,
R26). -/
abbrev latchAtPtr (s : State) : Prop :=
  s.latch.dbuf.length = s.latch.nlen.toNat
  ∧ s.ptr.toNat + s.latch.record.length ≤ s.scriptLen.toNat
  ∧ s.script.readBytes s.ptr.toNat s.latch.record.length = some (encodeRecord s.latch.record)

/-- The request in `PENDING`, if there is one, is `r`. -/
abbrev pendingIs (r : TxReq) (s : State) : Prop := s.pending = none ∨ s.pending = some r

/-- Where an OPEN run can stand. -/
def openLegal (s : State) : Prop :=
  match s.stage with
  | .fetch => s.pending = none ∧ s.ptr.toNat ≤ s.scriptLen.toNat
  | .cmd => latchAtPtr s ∧ pendingIs (.cmd s.latch.opc) s
  | .data => latchAtPtr s ∧ s.latch.dbuf ≠ [] ∧ pendingIs (.data s.latch.dbuf) s
  | .delay => latchAtPtr s ∧ s.latch.dflag = true ∧ pendingIs (.delay s.latch.dms) s
  | .done => latchAtPtr s ∧ s.pending = none
  | .validate => False
  | .resolve => False
  | .stream => False

/-- Where a COMMIT run can stand. -/
def commitLegal (s : State) : Prop :=
  match s.stage with
  | .validate => s.pending = none ∧ s.pixSent = 0
  | .resolve => s.pending = none ∧ s.pixSent = 0 ∧ firstInvalid s = none
  | .stream =>
    s.frame.length = s.cfg.framePixels
    ∧ s.chunkPos ≤ s.cfg.framePixels
    ∧ s.pixSent.toNat = s.chunkPos
    ∧ (s.pending = none
      ∨ s.chunkPos < s.cfg.framePixels
        ∧ s.pending = some (.data (chunkBytes s s.chunkPos (chunkEnd s.cfg s.chunkPos))))
  | .fetch => False
  | .cmd => False
  | .data => False
  | .delay => False
  | .done => False

/-- A bitmap within its bounds, with all its cells (10_state.md R37). -/
abbrev bitmapLegal (c : Config) (b : Bitmap) : Prop :=
  b.w ≤ c.bmpMaxW ∧ b.h ≤ c.bmpMaxH ∧ b.cells.length = b.w * b.h ∧ ∀ v ∈ b.cells, v.toNat < 2 ^ c.indexBits

/-- A slot that names existing objects, with offsets of `COORD_BITS` bits (R38). -/
abbrev placementLegal (c : Config) (l : Placement) : Prop :=
  l.bmp < c.numBitmaps ∧ l.pal < c.numPalettes ∧ coordOk c l.x0 = true ∧ coordOk c l.y0 = true

/-- The states the rules allow: what 10_state.md says of each piece of state and of the pieces
together. Every step keeps it, and a legal state never stops. -/
structure State.Legal (s : State) : Prop where
  /-- 00_scope.md R9. -/
  config : s.cfg.wf = true
  /-- The canonical form of script memory. -/
  scriptForm : Memory.wf s.script
  /-- 20_memory.md R60: offsets below `SCRIPT_MAX`. -/
  scriptSpace : ∀ c ∈ s.script, c.1 < s.cfg.scriptMax
  /-- 10_state.md R35. -/
  scriptLength : s.scriptLen.toNat ≤ s.cfg.scriptMax
  /-- R35: every byte below `SCRIPT_LEN` has been written. -/
  scriptWritten : ∀ a < s.scriptLen.toNat, (s.script.read a).isSome = true
  /-- R36. -/
  paletteCount : s.palettes.length = s.cfg.numPalettes
  paletteSizes : ∀ p ∈ s.palettes, p.entries.length ≤ s.cfg.palMax
  /-- R37. -/
  bitmapCount : s.bitmaps.length = s.cfg.numBitmaps
  bitmapShapes : ∀ b ∈ s.bitmaps, bitmapLegal s.cfg b
  /-- R38. -/
  slotCount : s.layers.length = s.cfg.maxLayers
  slots : ∀ l ∈ s.layers, placementLegal s.cfg l
  stackSize : s.layerCount.toNat ≤ s.cfg.maxLayers
  /-- R23, R29: both count the completed records. -/
  recordCounts : s.recDone = s.recIdx
  /-- R23: a record is at least two bytes. -/
  recordSizes : 2 * s.recIdx.toNat ≤ s.ptr.toNat
  /-- R30. -/
  pixelCount : s.pixSent.toNat ≤ s.cfg.framePixels
  /-- R28, R33: a run in progress has no outcome yet. -/
  noOutcome : s.busyOp ≠ .idle → s.result = .none ∧ s.err = {}
  /-- 43_session_host_ops.md R203. -/
  openingSession : s.busyOp = .opening → s.session = .closed
  committingSession : s.busyOp = .committing → s.session = .opened
  /-- 10_state.md R41: an idle block waits for nothing. -/
  idlePending : s.busyOp = .idle → s.pending = none
  /-- A pending request is the last thing the transport has received. -/
  pendingSent : ∀ r, s.pending = some r → s.trace.getLast? = some (.sent r)
  /-- The reply line is read in the step in which an answer arrives. -/
  replyTaken : s.reply = none
  openingRun : s.busyOp = .opening → openLegal s
  committingRun : s.busyOp = .committing → commitLegal s

/-! ### Runs -/

/-- `n` steps of the machine. -/
def runSteps (n : Nat) (s : State) : Outcome State Fault Refusal := Host.Core.run Sys2Proof.core n s

/-- The requests of a record, in order (20_memory.md R76). -/
def recordRequests (r : Record) : List TxReq :=
  .cmd r.opcode ::
    ((match r.data with
      | [] => []
      | b :: bs => [.data (b :: bs)])
    ++ (match r.delay with
      | none => []
      | some ms => [.delay ms]))

/-- The requests of a list of records. -/
def scriptRequests : List Record → List TxReq
  | [] => []
  | r :: rs => recordRequests r ++ scriptRequests rs

/-- The trace of requests that are all answered `ok`. -/
def answeredOk : List TxReq → List TraceEvent
  | [] => []
  | r :: rs => .sent r :: .answered .ok :: answeredOk rs

/-- The turns in which the block issues `n` requests and the transport answers each `ok`, `k` requests
having been sent before. -/
def okTurns (k : Nat) : Nat → List Turn
  | 0 => []
  | n + 1 => .block :: .answer (k + 1) .ok :: okTurns (k + 1) n

/-- The turns of one record without failure: its decode step, its requests, and its completion
(40_script_records.md R123). -/
def recordTurns (k : Nat) (r : Record) : List Turn :=
  .block :: (okTurns k (recordRequests r).length ++ [.block])

/-- The turns of a list of records without failure. -/
def scriptTurns (k : Nat) : List Record → List Turn
  | [] => []
  | r :: rs => recordTurns k r ++ scriptTurns (k + (recordRequests r).length) rs

/-- The data bytes of a list of requests, in the order sent. -/
def dataBytes : List TxReq → List Byte
  | [] => []
  | .data bs :: rs => bs ++ dataBytes rs
  | .cmd _ :: rs => dataBytes rs
  | .delay _ :: rs => dataBytes rs

/-- The ends of the chunks of `CHUNKING`, in rising order (42_compositor.md R177, R178). -/
def chunkEnds (c : Config) : List Nat :=
  match c.chunking with
  | .perRow => (List.range c.frameH).map (fun Y => (Y + 1) * c.frameW)
  | .endsAt ends => ends

/-- The data requests of a frame whose chunks end at `ends`, from pixel `pos` on (R177). -/
def frameRequests (be : Bool) (frame : List Pixel) (pos : Nat) : List Nat → List TxReq
  | [] => []
  | e :: es => .data (frameBytes be ((frame.drop pos).take (e - pos))) :: frameRequests be frame e es

/-! ### The vocabulary of the claims -/

/-- `s` with the request `r` sent and pending, the select line at `mode`. -/
def sentState (r : TxReq) (mode : TxMode) (s : State) : State :=
  { s with pending := some r, txMode := mode, trace := s.trace ++ [.sent r] }

/-- `s` with the pending request answered `ok`, the run going on at stage `g`. -/
def okState (g : Stage) (s : State) : State :=
  { s with pending := none, reply := none, trace := s.trace ++ [.answered .ok], stage := g }

/-- `s` with the pending request of a record answered `fail` (60_exceptions.md R243): the OPEN run has
ended with `TransportFailure`. -/
def failState (field : ErrField) (s : State) : State :=
  { s with
    pending := none, reply := none, trace := s.trace ++ [.answered .fail]
    err := { record := s.recIdx, field := field, offset := s.ptr.setWidth 32 }
    result := .transportFailure, session := .failed, busyOp := .idle }

/-- `s` with a record of `len` bytes completed (40_script_records.md R117). -/
def completedState (len : Nat) (s : State) : State :=
  { s with
    ptr := s.ptr + BitVec.ofNat 16 len, recIdx := s.recIdx + 1, recDone := s.recDone + 1
    stage := .fetch }

/-- `s` with the byte `b` captured as pixel format, as memory access control, or both (R120, R121). -/
def capturedState (pixfmt madctl : Bool) (b : Byte) (s : State) : State :=
  { s with
    cfgPixfmt := if pixfmt then b else s.cfgPixfmt
    cfgPixfmtValid := pixfmt || s.cfgPixfmtValid
    cfgMadctl := if madctl then b else s.cfgMadctl
    cfgMadctlValid := madctl || s.cfgMadctlValid }

/-- The instruction `i` at a request of its record: it sends `r`, waits for the answer, goes on to `good`
when it is `ok`, and ends the run with `TransportFailure` in `field` when it is `fail`. -/
def requestStep (i : Instr) (r : TxReq) (mode : TxMode) (field : ErrField) (good : State) (s : State) : Prop :=
  (s.pending = none → exec i s = .next (sentState r mode s))
  ∧ (s.pending ≠ none → s.reply = none → exec i s = .next s)
  ∧ (s.pending ≠ none → s.reply = some .ok → exec i s = .next good)
  ∧ (s.pending ≠ none → s.reply = some .fail → s.busyOp = .opening → exec i s = .next (failState field s))

/-- `s` with a host operation answered `code`, nothing else changed. -/
def answeredState (code : RespCode) (s : State) : State := { s with response := some ⟨code, 0⟩ }

/-- `s` stands at the start of an OPEN run over the script `bytes` (R110). -/
def openStart (bytes : List Byte) (s : State) : Prop :=
  s.busyOp = .opening ∧ s.stage = .fetch ∧ s.pending = none ∧ s.reply = none
  ∧ s.ptr = 0 ∧ s.recIdx = 0 ∧ s.recDone = 0
  ∧ s.script.readBytes 0 s.scriptLen.toNat = some bytes

/-- The `ERR_FIELD` of a record's request that is answered `fail` (60_exceptions.md R241). -/
def failedField : TxReq → ErrField
  | .cmd _ => .cmdWrite
  | .data _ => .dataWrite
  | .delay _ => .delayWait

/-- The instructions that are records, and those that are host operations. -/
def isRecord (i : Instr) : Bool := (recordOf Config.default i).isSome

end Sys2Proof.Machine
end

