-- ==== Sys2Proof/Certificates/Slice0/Obligations.lean ====
section
/-! DEFINITION. The statements about the machine, for the provers. Rules are those of spec/. -/

open Sys2Proof Sys2Proof.Machine

/-! ### Encoding -/

/-- Decoding an encoded well-formed instruction gives it back, under every configuration. -/
def Obligations.DecodeOfEncodeIsTheInstruction : Prop :=
  ∀ (c : Config) (i : Instr), WellFormed c i = true → decode c (encode c i) = .ok i

/-- R99: the round-trip laws of scripts, and that decoding is injective on valid scripts. -/
def Obligations.ScriptRoundTrip : Prop :=
  (∀ (bytes : List Byte) (rs : List Record), decodeScript bytes = .ok rs → encodeScript rs = bytes)
  ∧ (∀ rs : List Record, (∀ r ∈ rs, r.wf = true) → decodeScript (encodeScript rs) = .ok rs)
  ∧ (∀ (b1 b2 : List Byte) (rs : List Record), decodeScript b1 = .ok rs → decodeScript b2 = .ok rs → b1 = b2)

/-- R90, R91: the bytes of a record, in order, and the two fields of its descriptor. -/
def Obligations.RecordLayout : Prop :=
  ∀ r : Record, r.wf = true →
    ∃ desc : Byte,
      encodeRecord r = [r.opcode, desc] ++ r.data ++ r.delay.toList
      ∧ desc.getLsbD 7 = r.delay.isSome
      ∧ (desc.extractLsb' 0 7).toNat = r.data.length

/-- R92: how the operands of a record are assembled from the bytes at its start, where they all stand. -/
def Obligations.RecordOperands : Prop :=
  ∀ (opcode desc : Byte) (rest : List Byte),
    let n := (desc.extractLsb' 0 7).toNat
    (desc.getLsbD 7 = false → n ≤ rest.length →
      decodeRecord (opcode :: desc :: rest) = .ok (⟨opcode, rest.take n, none⟩, rest.drop n))
    ∧ (desc.getLsbD 7 = true → ∀ h : n < rest.length,
      decodeRecord (opcode :: desc :: rest) = .ok (⟨opcode, rest.take n, some rest[n]⟩, rest.drop (n + 1)))

/-- R96: a byte stream is rejected exactly when it ends before a declared field is read, and the first
missing field is named. -/
def Obligations.OnlyTruncationIsRejected : Prop :=
  (∀ opcode : Byte, decodeRecord [opcode] = .error .noDescriptor)
  ∧ ∀ (opcode desc : Byte) (rest : List Byte),
    let n := (desc.extractLsb' 0 7).toNat
    (decodeRecord (opcode :: desc :: rest) = .error .shortData ↔ rest.length < n)
    ∧ (decodeRecord (opcode :: desc :: rest) = .error .noDelay ↔ rest.length = n ∧ desc.getLsbD 7 = true)
    ∧ ((∃ p, decodeRecord (opcode :: desc :: rest) = .ok p) ↔ n + (desc.getLsbD 7).toNat ≤ rest.length)

/-- R94: a decoded record's length is `2 + n + d`, told from its first two bytes, between 2 and 130, and
that is what it consumes. -/
def Obligations.RecordLengthRule : Prop :=
  ∀ (bytes rest : List Byte) (r : Record), decodeRecord bytes = .ok (r, rest) →
    r.length = recordSpan bytes ∧ 2 ≤ r.length ∧ r.length ≤ 130 ∧ bytes.drop r.length = rest
    ∧ bytes.length = r.length + rest.length

/-- R93, R100: the format row of a record, told by its data and its delay, and the overlay where the
opcode is recognised and there is data. That a recognised record decodes to the overlay's instruction is
the model's choice, log entry 12. -/
def Obligations.RecordsDecodeToTheirRow : Prop :=
  ∀ (c : Config) (opcode ms : Byte) (data : List Byte) (delay : Option Byte), payloadOk data = true →
    decode c (.record [opcode, 0x00]) = .ok (.cmd opcode)
    ∧ decode c (.record [opcode, 0x80, ms]) = .ok (.cmdDelay opcode ms)
    ∧ (opcode ≠ c.opcPixfmt → opcode ≠ c.opcMadctl →
      decode c (.record (encodeRecord ⟨opcode, data, none⟩)) = .ok (.cmdData opcode data)
      ∧ decode c (.record (encodeRecord ⟨opcode, data, some ms⟩)) = .ok (.cmdDataDelay opcode data ms))
    ∧ decode c (.record (encodeRecord ⟨c.opcPixfmt, data, delay⟩)) = .ok (.snoopPixfmt data delay)
    ∧ (c.opcMadctl ≠ c.opcPixfmt →
      decode c (.record (encodeRecord ⟨c.opcMadctl, data, delay⟩)) = .ok (.snoopMadctl data delay))

/-- A sanity statement: words written out from R93, R103 and R105, under the default recognised opcodes
(PRESUMED, log entry 2). That recognised records decode to the overlays and that a host request has typed
arguments are the model's choices, log entries 12 and 11. -/
def Obligations.ExampleWordsDecode : Prop :=
  decode Config.default (.record [0x11, 0x00]) = .ok (.cmd 0x11)
  ∧ decode Config.default (.record [0x29, 0x80, 0x14]) = .ok (.cmdDelay 0x29 20)
  ∧ decode Config.default (.record [0xF0, 0x01, 0xC3]) = .ok (.cmdData 0xF0 [0xC3])
  ∧ decode Config.default (.record [0xB0, 0x82, 0x12, 0x34, 0x05]) = .ok (.cmdDataDelay 0xB0 [0x12, 0x34] 5)
  ∧ decode Config.default (.record [0x3A, 0x01, 0x55]) = .ok (.snoopPixfmt [0x55] none)
  ∧ decode Config.default (.record [0x36, 0x81, 0x48, 0x0A]) = .ok (.snoopMadctl [0x48] (some 10))
  ∧ decode Config.default (.request ⟨0x06, [.num 0, .num 3, .num 1, .num 2]⟩) = .ok (.writeCell 0 3 1 2)
  ∧ decode Config.default (.request ⟨0x0B, []⟩) = .error .unknownCode

/-! ### Reset and the idle block -/

/-- R270: the values the spec gives for reset, in every configuration. The latch, FRAME, CHUNK_POS and
the script bytes, which R270 leaves unspecified, are not named. -/
def Obligations.ResetValues : Prop :=
  ∀ c : Config,
    let s := State.resetWith c
    s.session = .closed ∧ s.busyOp = .idle ∧ s.result = .none
    ∧ s.ptr = 0 ∧ s.recIdx = 0 ∧ s.recDone = 0 ∧ s.pixSent = 0
    ∧ s.err = ⟨0, .none, 0, 0, 0, 0, 0⟩
    ∧ s.cfgPixfmt = 0 ∧ s.cfgPixfmtValid = false ∧ s.cfgMadctl = 0 ∧ s.cfgMadctlValid = false
    ∧ s.txMode = .cmd ∧ s.pending = none ∧ s.scriptLen = 0
    ∧ (∀ p < c.numPalettes, s.palettes[p]? = some ⟨[]⟩)
    ∧ (∀ b < c.numBitmaps, s.bitmaps[b]? = some ⟨0, 0, []⟩)
    ∧ s.layerCount = 0
    ∧ (∀ k < c.maxLayers, s.layers[k]? = some ⟨0, 0, 0, 0, true⟩)
    ∧ s.cfg = c

/-- R271: reset abandons a run at any time; no request is sent, and the answer to the abandoned request
changes nothing whenever it comes, whatever has run since and whatever is pending then. In any state an
answer to no request, or to another request than the pending one, changes nothing. That the trace keeps
what the transport received and that an answer names its request by number are the model's choices, log
entries 9 and 8. -/
def Obligations.ResetAbandonsTheRun : Prop :=
  (∀ (s : State) (ts : List Turn), s.turns = .reset :: ts →
    let t := { State.resetWith s.cfg with trace := s.trace, turns := ts }
    step s = .next t
    ∧ ∀ (k : Nat) (u : State) (a : Answer) (ts' : List Turn),
      runSteps k t = .next u → u.turns = .answer s.sentCount a :: ts' → step u = .next { u with turns := ts' })
  ∧ ∀ (s : State) (n : Nat) (a : Answer) (ts : List Turn),
    s.turns = .answer n a :: ts → s.pending = none ∨ n ≠ s.sentCount → step s = .next { s with turns := ts }

/-- R272: the block executes nothing by itself while it is idle. -/
def Obligations.IdleBlockDoesNothing : Prop :=
  ∀ s : State, s.busyOp = .idle →
    (s.turns = [] → step s = .next s)
    ∧ (∀ ts, s.turns = .block :: ts → step s = .next { s with turns := ts })

/-! ### A step runs the instruction -/

/-- At a record boundary of an OPEN run, a step decodes the record at `PTR` into the latch and does nothing
else (R111, R112), and the block's next step is `exec` of its instruction (R123). -/
def Obligations.StepRunsTheRecordAtPtr : Prop :=
  ∀ (s : State) (i : Instr) (r : Record) (ts : List Turn),
    WellFormed s.cfg i = true → recordOf s.cfg i = some r →
    s.busyOp = .opening → s.stage = .fetch →
    s.ptr.toNat + r.length ≤ s.scriptLen.toNat →
    s.script.readBytes s.ptr.toNat r.length = some (encodeRecord r) →
    (s.turns = .block :: ts ∨ s.turns = [] ∧ ts = []) →
    let t := { s with
      turns := ts, stage := .cmd
      latch := ⟨r.opcode, BitVec.ofNat 7 r.data.length, r.delay.isSome, r.data, r.delay.getD s.latch.dms⟩ }
    step s = .next t
    ∧ (ts = [] → step t = exec i t)
    ∧ ∀ ts', ts = .block :: ts' → step t = exec i { t with turns := ts' }

/-- Inside a record of an OPEN run, a step of the block is `exec` of the instruction in the latch, and so
is the turn of the transport, with its answer on the reply line. -/
def Obligations.StepGoesOnWithTheLatchedRecord : Prop :=
  ∀ (s : State) (ts : List Turn),
    s.busyOp = .opening → s.stage = .cmd ∨ s.stage = .data ∨ s.stage = .delay ∨ s.stage = .done →
    let i := classify s.cfg s.latch.record
    (s.turns = .block :: ts → step s = exec i { s with turns := ts })
    ∧ (s.turns = [] → step s = exec i s)
    ∧ (∀ a, s.turns = .answer s.sentCount a :: ts → s.pending ≠ none →
      step s = exec i { s with turns := ts, reply := some a })

/-- The host's turn is `exec` of the operation it asks for. -/
def Obligations.StepRunsTheHostOperation : Prop :=
  ∀ (s : State) (i : Instr) (q : HostReq) (ts : List Turn),
    encode s.cfg i = .request q → s.turns = .host q :: ts →
    step s = exec i { s with turns := ts }

/-- R202 (1): a code outside the table is answered `ARG_RANGE`, busy or not, and changes nothing. -/
def Obligations.UnknownCodeIsOutOfRange : Prop :=
  ∀ (s : State) (q : HostReq) (ts : List Turn),
    q.code = 0 ∨ 0x0A < q.code.toNat → s.turns = .host q :: ts →
    step s = .next (answeredState .argRange { s with turns := ts })

/-- R41, R78, R257: while a request has no answer the block takes no step, and it waits for ever if none
comes. -/
def Obligations.UnansweredRequestWaits : Prop :=
  ∀ (s : State) (r : TxReq), s.Legal → s.pending = some r →
    (s.turns = [] → step s = .next s)
    ∧ (∀ ts, s.turns = .block :: ts → step s = .next { s with turns := ts })

/-! ### The record instructions -/

/-- R113: the bytes of `CMD`, its one request, and its completion. -/
def Obligations.CmdSendsTheCommand : Prop :=
  ∀ (opcode : Byte) (s : State),
    encode s.cfg (.cmd opcode) = .record [opcode, 0x00]
    ∧ (s.stage = .cmd →
      requestStep (.cmd opcode) (.cmd opcode) .cmd .cmdWrite (okState .done s) s)
    ∧ (s.stage = .done → exec (.cmd opcode) s = .next (completedState 2 s))

/-- R114: a delay of 0 is issued too (the spec's decision D8). -/
def Obligations.CmdDelaySendsCommandThenDelay : Prop :=
  ∀ (opcode ms : Byte) (s : State),
    encode s.cfg (.cmdDelay opcode ms) = .record [opcode, 0x80, ms]
    ∧ (s.stage = .cmd →
      requestStep (.cmdDelay opcode ms) (.cmd opcode) .cmd .cmdWrite (okState .delay s) s)
    ∧ (s.stage = .delay →
      requestStep (.cmdDelay opcode ms) (.delay ms) s.txMode .delayWait (okState .done s) s)
    ∧ (s.stage = .done → exec (.cmdDelay opcode ms) s = .next (completedState 3 s))

/-- R115, with the capture of R120 and R121. -/
def Obligations.CmdDataSendsCommandThenData : Prop :=
  ∀ (opcode b : Byte) (bs : List Byte) (s : State),
    let pixfmt := opcode == s.cfg.opcPixfmt
    let madctl := opcode == s.cfg.opcMadctl
    (payloadOk (b :: bs) = true →
      encode s.cfg (.cmdData opcode (b :: bs)) = .record (opcode :: BitVec.ofNat 8 (b :: bs).length :: b :: bs))
    ∧ (s.stage = .cmd →
      requestStep (.cmdData opcode (b :: bs)) (.cmd opcode) .cmd .cmdWrite (okState .data s) s)
    ∧ (s.stage = .data →
      requestStep (.cmdData opcode (b :: bs)) (.data (b :: bs)) .data .dataWrite
        (capturedState pixfmt madctl b (okState .done s)) s)
    ∧ (s.stage = .done →
      exec (.cmdData opcode (b :: bs)) s = .next (completedState (2 + (b :: bs).length) s))

/-- R116, with the capture of R120 and R121, which stands whatever becomes of the delay. -/
def Obligations.CmdDataDelaySendsCommandDataDelay : Prop :=
  ∀ (opcode b ms : Byte) (bs : List Byte) (s : State),
    let pixfmt := opcode == s.cfg.opcPixfmt
    let madctl := opcode == s.cfg.opcMadctl
    (payloadOk (b :: bs) = true →
      encode s.cfg (.cmdDataDelay opcode (b :: bs) ms) =
        .record (opcode :: (0x80 ||| BitVec.ofNat 8 (b :: bs).length) :: b :: bs ++ [ms]))
    ∧ (s.stage = .cmd →
      requestStep (.cmdDataDelay opcode (b :: bs) ms) (.cmd opcode) .cmd .cmdWrite (okState .data s) s)
    ∧ (s.stage = .data →
      requestStep (.cmdDataDelay opcode (b :: bs) ms) (.data (b :: bs)) .data .dataWrite
        (capturedState pixfmt madctl b (okState .delay s)) s)
    ∧ (s.stage = .delay →
      requestStep (.cmdDataDelay opcode (b :: bs) ms) (.delay ms) s.txMode .delayWait (okState .done s) s)
    ∧ (s.stage = .done →
      exec (.cmdDataDelay opcode (b :: bs) ms) s = .next (completedState (3 + (b :: bs).length) s))

/-- R120: the record of `OPC_PIXFMT` runs by its format rule, and its first data byte is captured when the
data write is answered `ok`. -/
def Obligations.SnoopPixfmtCapturesTheFirstByte : Prop :=
  ∀ (b : Byte) (bs : List Byte) (delay : Option Byte) (s : State),
    let i := Instr.snoopPixfmt (b :: bs) delay
    let madctl := s.cfg.opcPixfmt == s.cfg.opcMadctl
    let last := if delay.isSome then Stage.delay else Stage.done
    (s.stage = .cmd → requestStep i (.cmd s.cfg.opcPixfmt) .cmd .cmdWrite (okState .data s) s)
    ∧ (s.stage = .data →
      requestStep i (.data (b :: bs)) .data .dataWrite (capturedState true madctl b (okState last s)) s)
    ∧ (∀ ms, delay = some ms → s.stage = .delay →
      requestStep i (.delay ms) s.txMode .delayWait (okState .done s) s)
    ∧ (s.stage = .done →
      exec i s = .next (completedState (2 + (b :: bs).length + delay.isSome.toNat) s))

/-- R121: the same for `OPC_MADCTL`; both are captured where the two opcodes are equal. -/
def Obligations.SnoopMadctlCapturesTheFirstByte : Prop :=
  ∀ (b : Byte) (bs : List Byte) (delay : Option Byte) (s : State),
    let i := Instr.snoopMadctl (b :: bs) delay
    let pixfmt := s.cfg.opcMadctl == s.cfg.opcPixfmt
    let last := if delay.isSome then Stage.delay else Stage.done
    (s.stage = .cmd → requestStep i (.cmd s.cfg.opcMadctl) .cmd .cmdWrite (okState .data s) s)
    ∧ (s.stage = .data →
      requestStep i (.data (b :: bs)) .data .dataWrite (capturedState pixfmt true b (okState last s)) s)
    ∧ (∀ ms, delay = some ms → s.stage = .delay →
      requestStep i (.delay ms) s.txMode .delayWait (okState .done s) s)
    ∧ (s.stage = .done →
      exec i s = .next (completedState (2 + (b :: bs).length + delay.isSome.toNat) s))

/-- The frame of the six record instructions (R21, R61): a record writes no memory and no register but
`PTR`, `REC_IDX`, `REC_DONE`, which only its completion writes, the capture registers, which only an `ok`
answer to the data of a recognised opcode writes, `TX_MODE`, `PENDING`, and, when its request fails, what
an error writes. Its completion touches no request. -/
def Obligations.RecordFrame : Prop :=
  ∀ (i : Instr) (r : Record) (s t : State), recordOf s.cfg i = some r → exec i s = .next t →
    t.cfg = s.cfg ∧ t.latch = s.latch ∧ t.pixSent = s.pixSent ∧ t.frame = s.frame ∧ t.chunkPos = s.chunkPos
    ∧ (∀ a, t.script.read a = s.script.read a) ∧ t.scriptLen = s.scriptLen
    ∧ t.palettes = s.palettes ∧ t.bitmaps = s.bitmaps ∧ t.layers = s.layers ∧ t.layerCount = s.layerCount
    ∧ t.turns = s.turns ∧ t.response = s.response
    ∧ (s.stage ≠ .done → t.ptr = s.ptr ∧ t.recIdx = s.recIdx ∧ t.recDone = s.recDone)
    ∧ (¬ (s.stage = .data ∧ s.reply = some .ok ∧ r.opcode = s.cfg.opcPixfmt) →
      t.cfgPixfmt = s.cfgPixfmt ∧ t.cfgPixfmtValid = s.cfgPixfmtValid)
    ∧ (¬ (s.stage = .data ∧ s.reply = some .ok ∧ r.opcode = s.cfg.opcMadctl) →
      t.cfgMadctl = s.cfgMadctl ∧ t.cfgMadctlValid = s.cfgMadctlValid)
    ∧ (¬ (s.pending ≠ none ∧ s.reply = some .fail) →
      t.err = s.err ∧ t.result = s.result ∧ t.session = s.session ∧ t.busyOp = s.busyOp)
    ∧ (s.pending ≠ none ∨ s.stage = .done → t.txMode = s.txMode)
    ∧ (s.stage = .done → t.pending = s.pending ∧ t.reply = s.reply ∧ t.trace = s.trace)

/-- R111: at the end of the script the run ends with success. -/
def Obligations.EndOfScriptOpensTheSession : Prop :=
  ∀ (s : State) (ts : List Turn), s.busyOp = .opening → s.stage = .fetch → s.ptr = s.scriptLen →
    s.turns = .block :: ts →
    step s = .next { s with turns := ts, session := .opened, result := .ok, busyOp := .idle }

/-- R112, R243: a record that is cut short ends the run before any of its requests, with the first
missing field recorded. -/
def Obligations.MalformedRecordEndsTheRun : Prop :=
  ∀ (s : State) (bytes : List Byte) (miss : Truncation) (ts : List Turn),
    s.busyOp = .opening → s.stage = .fetch → s.ptr.toNat < s.scriptLen.toNat →
    s.script.readBytes s.ptr.toNat (s.scriptLen.toNat - s.ptr.toNat) = some bytes →
    decodeRecord bytes = .error miss → s.turns = .block :: ts →
    ∃ latch, step s = .next { s with
      turns := ts, latch := latch
      err := { record := s.recIdx, field := missingField miss, offset := s.ptr.setWidth 32 }
      result := .malformedScript, session := .failed, busyOp := .idle, pending := none }

/-! ### The host operations -/

/-- R205: the bytes are stored from offset 0, every other byte stays, nothing else changes. -/
def Obligations.LoadScriptStoresTheBytes : Prop :=
  ∀ (bytes : List Byte) (s : State), s.busyOp = .idle →
    (bytes.length > s.cfg.scriptMax → exec (.loadScript bytes) s = .next (answeredState .argRange s))
    ∧ (bytes.length ≤ s.cfg.scriptMax →
      ∃ m : Memory,
        exec (.loadScript bytes) s = .next { answeredState .accepted s with
          script := m, scriptLen := BitVec.ofNat 16 bytes.length }
        ∧ (∀ a, ∀ h : a < bytes.length, m.read a = some bytes[a])
        ∧ (∀ a, bytes.length ≤ a → m.read a = s.script.read a)
        ∧ (s.script.wf → m.wf))

/-- R206, R110: what the start of an OPEN run writes, in every session state. -/
def Obligations.OpenStartsTheRun : Prop :=
  ∀ s : State, s.busyOp = .idle →
    exec .openSession s = .next { answeredState .accepted s with
      busyOp := .opening, session := .closed, result := .none
      ptr := 0, recIdx := 0, recDone := 0
      cfgPixfmt := 0, cfgPixfmtValid := false, cfgMadctl := 0, cfgMadctlValid := false
      err := ⟨0, .none, 0, 0, 0, 0, 0⟩
      stage := .fetch }

/-- R207. -/
def Obligations.CreatePaletteZeroFills : Prop :=
  ∀ (p n : Nat) (s : State), s.busyOp = .idle →
    (p ≥ s.cfg.numPalettes ∨ n > s.cfg.palMax →
      exec (.createPalette p n) s = .next (answeredState .argRange s))
    ∧ (p < s.cfg.numPalettes → n ≤ s.cfg.palMax →
      exec (.createPalette p n) s = .next { answeredState .accepted s with
        palettes := s.palettes.set p ⟨List.replicate n 0x000000⟩ })

/-- R208: one entry is written, every other entry of every palette stays, nothing else changes. -/
def Obligations.WritePaletteWritesOneEntry : Prop :=
  ∀ (p i : Nat) (rgb : Rgb) (s : State), s.busyOp = .idle →
    (p ≥ s.cfg.numPalettes ∨ i ≥ palN s p →
      exec (.writePalette p i rgb) s = .next (answeredState .argRange s))
    ∧ (p < s.cfg.numPalettes → i < palN s p →
      ∃ t, exec (.writePalette p i rgb) s = .next t
        ∧ t = { answeredState .accepted s with palettes := t.palettes }
        ∧ palRead? t p i = some rgb
        ∧ (∀ q, palN t q = palN s q)
        ∧ (∀ q j, ¬ (q = p ∧ j = i) → palRead? t q j = palRead? s q j))

/-- R209. -/
def Obligations.CreateBitmapZeroFills : Prop :=
  ∀ (b w h : Nat) (s : State), s.busyOp = .idle →
    (b ≥ s.cfg.numBitmaps ∨ w > s.cfg.bmpMaxW ∨ h > s.cfg.bmpMaxH →
      exec (.createBitmap b w h) s = .next (answeredState .argRange s))
    ∧ (b < s.cfg.numBitmaps → w ≤ s.cfg.bmpMaxW → h ≤ s.cfg.bmpMaxH →
      exec (.createBitmap b w h) s = .next { answeredState .accepted s with
        bitmaps := s.bitmaps.set b ⟨w, h, List.replicate (w * h) 0⟩ })

/-- R210: one cell is written, whatever any palette's size, every other cell stays, nothing else changes. -/
def Obligations.WriteCellWritesOneCell : Prop :=
  ∀ (b x y v : Nat) (s : State), s.busyOp = .idle →
    (b ≥ s.cfg.numBitmaps ∨ x ≥ bmpW s b ∨ y ≥ bmpH s b ∨ v ≥ 2 ^ s.cfg.indexBits →
      exec (.writeCell b x y v) s = .next (answeredState .argRange s))
    ∧ (b < s.cfg.numBitmaps → x < bmpW s b → y < bmpH s b → v < 2 ^ s.cfg.indexBits → s.Legal →
      ∃ t, exec (.writeCell b x y v) s = .next t
        ∧ t = { answeredState .accepted s with bitmaps := t.bitmaps }
        ∧ bmpRead? t b x y = some (BitVec.ofNat 16 v)
        ∧ (∀ q, bmpW t q = bmpW s q ∧ bmpH t q = bmpH s q)
        ∧ (∀ q x' y', ¬ (q = b ∧ x' = x ∧ y' = y) → bmpRead? t q x' y' = bmpRead? s q x' y'))

/-- R211. -/
def Obligations.SetLayerWritesTheSlot : Prop :=
  ∀ (k bmp pal : Nat) (x0 y0 : Int) (visible : Nat) (s : State), s.busyOp = .idle →
    let low : Int := -(2 ^ (s.cfg.coordBits - 1))
    let high : Int := 2 ^ (s.cfg.coordBits - 1)
    (k ≥ s.cfg.maxLayers ∨ bmp ≥ s.cfg.numBitmaps ∨ pal ≥ s.cfg.numPalettes
        ∨ ¬ (low ≤ x0 ∧ x0 < high) ∨ ¬ (low ≤ y0 ∧ y0 < high) ∨ (visible ≠ 0 ∧ visible ≠ 1) →
      exec (.setLayer k bmp pal x0 y0 visible) s = .next (answeredState .argRange s))
    ∧ (k < s.cfg.maxLayers → bmp < s.cfg.numBitmaps → pal < s.cfg.numPalettes →
      low ≤ x0 → x0 < high → low ≤ y0 → y0 < high →
      ∀ vis : Bool, visible = vis.toNat →
      exec (.setLayer k bmp pal x0 y0 visible) s = .next { answeredState .accepted s with
        layers := s.layers.set k ⟨bmp, pal, x0, y0, vis⟩ })

/-- R212: the slots keep their contents. -/
def Obligations.SetLayerCountSetsTheStack : Prop :=
  ∀ (n : Nat) (s : State), s.busyOp = .idle →
    (n > s.cfg.maxLayers → exec (.setLayerCount n) s = .next (answeredState .argRange s))
    ∧ (n ≤ s.cfg.maxLayers →
      exec (.setLayerCount n) s = .next { answeredState .accepted s with layerCount := BitVec.ofNat 8 n })

/-- R213, R39: `READ_REG` is answered in every state of a run, has no side effect, and gives the fields of
the register map, with the codes of R24, R25, R28 (R240) and R241; reserved bits read 0. -/
def Obligations.ReadRegGivesTheRegister : Prop :=
  ∀ (r : Nat) (s : State),
    (12 < r → exec (.readReg r) s = .next (answeredState .argRange s))
    ∧ (r ≤ 12 → ∃ v : BitVec 32,
      exec (.readReg r) s = .next { s with response := some ⟨.accepted, v⟩ }
      ∧ (r = 0 →
          v.extractLsb' 0 2 = (match s.session with | .closed => 0 | .opened => 1 | .failed => 2)
          ∧ v.extractLsb' 2 2 = (match s.busyOp with | .idle => 0 | .opening => 1 | .committing => 2)
          ∧ v.extractLsb' 4 4 = (match s.result with
            | .none => 0 | .ok => 1 | .malformedScript => 2 | .transportFailure => 3 | .invalidIndex => 4)
          ∧ v.extractLsb' 8 24 = 0)
      ∧ (r = 1 → v.extractLsb' 0 16 = s.err.record
          ∧ v.extractLsb' 16 4 = (match s.err.field with
            | .none => 0 | .descMissing => 1 | .dataShort => 2 | .delayMissing => 3 | .cmdWrite => 4
            | .dataWrite => 5 | .delayWait => 6 | .pixelWrite => 7 | .indexRange => 8)
          ∧ v.extractLsb' 20 12 = 0)
      ∧ (r = 2 → v = s.err.offset)
      ∧ (r = 3 → v.extractLsb' 0 16 = s.err.x ∧ v.extractLsb' 16 16 = s.err.y)
      ∧ (r = 4 → v.extractLsb' 0 8 = s.err.layer ∧ v.extractLsb' 8 24 = 0)
      ∧ (r = 5 → v.extractLsb' 0 16 = s.err.value ∧ v.extractLsb' 16 16 = 0)
      ∧ (r = 6 → v.extractLsb' 0 16 = s.recDone ∧ v.extractLsb' 16 16 = 0)
      ∧ (r = 7 → v = s.pixSent)
      ∧ (r = 8 → v.extractLsb' 0 16 = BitVec.ofNat 16 s.cfg.frameW
          ∧ v.extractLsb' 16 16 = BitVec.ofNat 16 s.cfg.frameH)
      ∧ (r = 9 → v.extractLsb' 0 8 = s.cfgPixfmt ∧ v.getLsbD 8 = s.cfgPixfmtValid ∧ v.extractLsb' 9 7 = 0
          ∧ v.extractLsb' 16 8 = s.cfgMadctl ∧ v.getLsbD 24 = s.cfgMadctlValid ∧ v.extractLsb' 25 7 = 0)
      ∧ (r = 10 → v = 16)
      ∧ (r = 11 → v.extractLsb' 0 16 = s.scriptLen ∧ v.extractLsb' 16 16 = 0)
      ∧ (r = 12 → v.extractLsb' 0 8 = s.layerCount ∧ v.extractLsb' 8 24 = 0))

/-- R214, R170: `COMMIT` is accepted only in an open session, and what the start of its run writes. -/
def Obligations.CommitStartsTheRun : Prop :=
  ∀ s : State, s.busyOp = .idle →
    (s.session ≠ .opened → exec .commit s = .next (answeredState .notOpen s))
    ∧ (s.session = .opened →
      exec .commit s = .next { answeredState .accepted s with
        busyOp := .committing, result := .none, pixSent := 0, err := ⟨0, .none, 0, 0, 0, 0, 0⟩
        stage := .validate })

/-- R201: while a run is in progress every host operation but `READ_REG` is answered `BUSY` and changes
nothing. -/
def Obligations.BusyRejectsAllButReadReg : Prop :=
  ∀ (i : Instr) (s : State), isRecord i = false → (∀ r, i ≠ .readReg r) → s.busyOp ≠ .idle →
    exec i s = .next (answeredState .busy s)

/-- R200: every host operation is answered at once, and one that is not accepted changes no state. -/
def Obligations.RejectedOperationChangesNothing : Prop :=
  ∀ (i : Instr) (s : State), isRecord i = false →
    ∃ t resp, exec i s = .next t ∧ t.response = some resp
      ∧ (resp.code ≠ .accepted → t = { s with response := some resp })

/-- The frame of the host operations: which operation writes which space (20_memory.md R60), and that none
makes a transport request. -/
def Obligations.HostOperationFrame : Prop :=
  ∀ (i : Instr) (s t : State), isRecord i = false → exec i s = .next t →
    t.cfg = s.cfg ∧ t.trace = s.trace ∧ t.pending = s.pending ∧ t.txMode = s.txMode ∧ t.reply = s.reply
    ∧ t.turns = s.turns ∧ t.latch = s.latch ∧ t.frame = s.frame ∧ t.chunkPos = s.chunkPos
    ∧ ((∀ bs, i ≠ .loadScript bs) →
      (∀ a, t.script.read a = s.script.read a) ∧ t.scriptLen = s.scriptLen)
    ∧ ((∀ p n, i ≠ .createPalette p n) → (∀ p j c, i ≠ .writePalette p j c) → t.palettes = s.palettes)
    ∧ ((∀ b w h, i ≠ .createBitmap b w h) → (∀ b x y v, i ≠ .writeCell b x y v) → t.bitmaps = s.bitmaps)
    ∧ ((∀ k b p x y v, i ≠ .setLayer k b p x y v) → t.layers = s.layers)
    ∧ ((∀ n, i ≠ .setLayerCount n) → t.layerCount = s.layerCount)
    ∧ (i ≠ .openSession →
      t.session = s.session ∧ t.ptr = s.ptr ∧ t.recIdx = s.recIdx ∧ t.recDone = s.recDone
      ∧ t.cfgPixfmt = s.cfgPixfmt ∧ t.cfgPixfmtValid = s.cfgPixfmtValid
      ∧ t.cfgMadctl = s.cfgMadctl ∧ t.cfgMadctlValid = s.cfgMadctlValid)
    ∧ (i ≠ .openSession → i ≠ .commit →
      t.busyOp = s.busyOp ∧ t.result = s.result ∧ t.err = s.err ∧ t.stage = s.stage)
    ∧ (i ≠ .commit → t.pixSent = s.pixSent)

/-! ### The Packer -/

/-- R151, R152: each field of the pixel is the top bits of its own channel, and of no other. The places of
the fields are the spec's general knowledge, log entry 17. -/
def Obligations.PackKeepsTheTopBits : Prop :=
  ∀ c : Rgb,
    (pack565 c).extractLsb' 11 5 = c.extractLsb' 19 5
    ∧ (pack565 c).extractLsb' 5 6 = c.extractLsb' 10 6
    ∧ (pack565 c).extractLsb' 0 5 = c.extractLsb' 3 5

/-- R154: packing an unpacked pixel gives it back, so packing is idempotent. -/
def Obligations.PackOfUnpackIsThePixel : Prop :=
  (∀ p : Pixel, pack565 (unpack565 p) = p)
  ∧ ∀ c : Rgb, pack565 (unpack565 (pack565 c)) = pack565 c

/-- R155: pixel `i` of a frame stands as bytes `2i` and `2i + 1`, high byte first exactly when
`PIXEL_BE`. -/
def Obligations.FrameBytesHoldEachPixel : Prop :=
  ∀ (be : Bool) (ps : List Pixel),
    (frameBytes be ps).length = 2 * ps.length
    ∧ ∀ i, ∀ h : i < ps.length,
      (frameBytes be ps)[2 * i]? = some (ps[i].extractLsb' (if be then 8 else 0) 8)
      ∧ (frameBytes be ps)[2 * i + 1]? = some (ps[i].extractLsb' (if be then 0 else 8) 8)

/-! ### The Resolver -/

/-- R38, R171, R173: the stack is the slots below `LAYER_COUNT` in order; the cell's colour is the
background where no slot of the stack covers it, and otherwise that of the last slot that does, read
through that slot's own pairing. -/
def Obligations.ResolveTakesTheTopmost : Prop :=
  ∀ (s : State) (X Y : Nat),
    (∀ k, (stack s)[k]? = if k < s.layerCount.toNat then s.layers[k]? else none)
    ∧ ((∀ l ∈ stack s, ¬ (l.visible = true ∧ l.x0 ≤ X ∧ (X : Int) < l.x0 + bmpW s l.bmp
        ∧ l.y0 ≤ Y ∧ (Y : Int) < l.y0 + bmpH s l.bmp)) →
      resolve s X Y = s.cfg.backgroundRgb)
    ∧ ∀ (below above : List Placement) (l : Placement), stack s = below ++ l :: above →
      (l.visible = true ∧ l.x0 ≤ X ∧ (X : Int) < l.x0 + bmpW s l.bmp
        ∧ l.y0 ≤ Y ∧ (Y : Int) < l.y0 + bmpH s l.bmp) →
      (∀ m ∈ above, ¬ (m.visible = true ∧ m.x0 ≤ X ∧ (X : Int) < m.x0 + bmpW s m.bmp
        ∧ m.y0 ≤ Y ∧ (Y : Int) < m.y0 + bmpH s m.bmp)) →
      ∀ (v : Index) (c : Rgb),
        bmpRead? s l.bmp (X - l.x0).toNat (Y - l.y0).toNat = some v → palRead? s l.pal v.toNat = some c →
        resolve s X Y = c

/-- R172: validation passes exactly when every cell of every bitmap of the stack (the slots below
`LAYER_COUNT`, R38), visible or not, is below the size of the palette its slot pairs it with; otherwise the
cell it reports is the first invalid one in the order slot, row, column. -/
def Obligations.ValidationFindsTheFirstInvalidCell : Prop :=
  ∀ s : State, s.Legal →
    (firstInvalid s = none ↔
      ∀ k < s.layerCount.toNat, ∃ l, s.layers[k]? = some l
        ∧ ∀ x < bmpW s l.bmp, ∀ y < bmpH s l.bmp,
          ∃ v, bmpRead? s l.bmp x y = some v ∧ v.toNat < palN s l.pal)
    ∧ ∀ c : BadCell, firstInvalid s = some c → c.layer < s.layerCount.toNat
      ∧ ∃ l, s.layers[c.layer]? = some l
        ∧ bmpRead? s l.bmp c.x c.y = some c.value ∧ palN s l.pal ≤ c.value.toNat
        ∧ (∀ x y, y < c.y ∨ y = c.y ∧ x < c.x →
          ∀ v, bmpRead? s l.bmp x y = some v → v.toNat < palN s l.pal)
        ∧ ∀ k < c.layer, ∀ m, s.layers[k]? = some m →
          ∀ x y v, bmpRead? s m.bmp x y = some v → v.toNat < palN s m.pal

/-- R71, R172, R243: an invalid cell ends the COMMIT run before any byte of the frame is sent, and the
session stays open. -/
def Obligations.InvalidIndexSendsNothing : Prop :=
  ∀ (s : State) (c : BadCell) (ts : List Turn), s.Legal → s.busyOp = .committing → s.stage = .validate →
    firstInvalid s = some c → s.turns = .block :: ts →
    step s = .next { s with
      turns := ts, busyOp := .idle, result := .invalidIndex
      err := { record := 0, field := .indexRange, offset := 0, layer := BitVec.ofNat 8 c.layer,
               x := BitVec.ofNat 16 c.x, y := BitVec.ofNat 16 c.y, value := c.value } }

/-- R172, R174, R176: a stack that passes validation is resolved in the next step of the block; the frame is
the packed colours of the surface cells in raster order, and neither step makes a request. -/
def Obligations.FrameInRasterOrder : Prop :=
  ∀ (s : State) (ts : List Turn), s.Legal → s.busyOp = .committing → s.turns = .block :: ts →
    (s.stage = .validate → firstInvalid s = none → step s = .next { s with turns := ts, stage := .resolve })
    ∧ (s.stage = .resolve →
      ∃ t, step s = .next t
        ∧ t = { s with turns := ts, frame := t.frame, chunkPos := 0, stage := .stream }
        ∧ t.frame.length = s.cfg.frameW * s.cfg.frameH
        ∧ ∀ X < s.cfg.frameW, ∀ Y < s.cfg.frameH,
          t.frame[Y * s.cfg.frameW + X]? = some (pack565 (resolve s X Y)))

/-- R181: with an empty stack the frame is all background. -/
def Obligations.EmptyStackIsBackground : Prop :=
  ∀ s : State, s.layerCount = 0 →
    resolveFrame s = List.replicate (s.cfg.frameW * s.cfg.frameH) (pack565 s.cfg.backgroundRgb)

/-- R177, R178: a chunk is a non-empty run of pixels that stays inside the frame; by default it is one
row, and under another partition it ends at the next end that partition lists. -/
def Obligations.ChunksPartitionTheFrame : Prop :=
  ∀ (c : Config), c.wf = true →
    (∀ pos < c.framePixels, pos < chunkEnd c pos ∧ chunkEnd c pos ≤ c.framePixels)
    ∧ (c.chunking = .perRow → ∀ Y, chunkEnd c (Y * c.frameW) = (Y + 1) * c.frameW)
    ∧ (∀ ends, c.chunking = .endsAt ends → ∀ pos < c.framePixels,
      chunkEnd c pos ∈ ends ∧ ∀ e ∈ ends, pos < e → chunkEnd c pos ≤ e)

/-- R177, R180: a block step of the stream phase sends the chunk at `CHUNK_POS`; `ok` counts its pixels;
`fail` ends the run with `TransportFailure` at the chunk's first pixel and leaves the session open. -/
def Obligations.StreamSendsTheNextChunk : Prop :=
  ∀ (s : State) (ts : List Turn), s.Legal → s.busyOp = .committing → s.stage = .stream →
    s.chunkPos < s.cfg.framePixels →
    let e := chunkEnd s.cfg s.chunkPos
    let r := TxReq.data (frameBytes s.cfg.pixelBe ((s.frame.drop s.chunkPos).take (e - s.chunkPos)))
    (s.pending = none → s.turns = .block :: ts →
      step s = .next { s with
        turns := ts, pending := some r, txMode := .data, trace := s.trace ++ [.sent r] })
    ∧ (s.pending ≠ none → s.turns = .answer s.sentCount .ok :: ts →
      step s = .next { s with
        turns := ts, pending := none, trace := s.trace ++ [.answered .ok]
        pixSent := BitVec.ofNat 32 e, chunkPos := e })
    ∧ (s.pending ≠ none → s.turns = .answer s.sentCount .fail :: ts →
      step s = .next { s with
        turns := ts, pending := none, trace := s.trace ++ [.answered .fail]
        busyOp := .idle, result := .transportFailure
        err := { record := 0, field := .pixelWrite, offset := BitVec.ofNat 32 s.chunkPos } })

/-- R177: after the last chunk the run ends with success. -/
def Obligations.StreamEndsWithTheFrame : Prop :=
  ∀ (s : State) (ts : List Turn), s.busyOp = .committing → s.stage = .stream →
    s.chunkPos = s.cfg.framePixels → s.turns = .block :: ts →
    step s = .next { s with turns := ts, result := .ok, busyOp := .idle }

/-! ### Whole runs -/

/-- R111, R76, R119: an OPEN run over a script that decodes, with every request answered `ok`, sends the
requests of its records in order, one at a time, and ends with the session open. -/
def Obligations.OpenRunReplaysTheScript : Prop :=
  ∀ (s : State) (bytes : List Byte) (rs : List Record) (ts : List Turn),
    openStart bytes s → decodeScript bytes = .ok rs →
    let run := scriptTurns s.sentCount rs ++ [.block]
    s.turns = run ++ ts →
    ∃ t, runSteps run.length s = .next t
      ∧ t.session = .opened ∧ t.busyOp = .idle ∧ t.result = .ok ∧ t.pending = none
      ∧ t.trace = s.trace ++ answeredOk (scriptRequests rs)
      ∧ t.ptr = s.scriptLen ∧ t.recIdx.toNat = rs.length ∧ t.recDone.toNat = rs.length ∧ t.turns = ts

/-- R77, R118, R244: a request of record `k` that fails ends the run; the requests before it were sent and
answered, none after it is sent, and the error names the record, its offset and the request. The error
registers and the failed session are the spec's decisions D5, D21 and D22 (log entry 20); the turns, the
numbers of answers and the trace are the model's, log entries 7, 8 and 9. -/
def Obligations.TransportFailureHaltsTheScript : Prop :=
  ∀ (s : State) (before after : List Record) (r : Record) (j : Nat) (ts : List Turn),
    (∀ q ∈ before, q.wf = true) → r.wf = true →
    openStart (encodeScript before ++ encodeRecord r ++ encodeScript after) s →
    ∀ h : j < (recordRequests r).length,
    let k := s.sentCount + (scriptRequests before).length
    let run := scriptTurns s.sentCount before ++ .block :: (okTurns k j ++ [.block, .answer (k + j + 1) .fail])
    s.turns = run ++ ts →
    ∃ t, runSteps run.length s = .next t
      ∧ t.session = .failed ∧ t.busyOp = .idle ∧ t.result = .transportFailure ∧ t.pending = none
      ∧ t.trace = s.trace ++ answeredOk (scriptRequests before ++ (recordRequests r).take j)
          ++ [.sent (recordRequests r)[j], .answered .fail]
      ∧ t.err.record.toNat = before.length ∧ t.err.field = failedField (recordRequests r)[j]
      ∧ t.err.offset.toNat = (encodeScript before).length
      ∧ t.recDone.toNat = before.length ∧ t.ptr.toNat = (encodeScript before).length ∧ t.turns = ts

/-- R112, R119: a script whose record `k` is cut short sends the records before it and nothing of it, and
the error names it. That the earlier records are sent is the spec's decision D6. -/
def Obligations.MalformedScriptSendsThePrefix : Prop :=
  ∀ (s : State) (before : List Record) (tail : List Byte) (miss : Truncation) (ts : List Turn),
    (∀ q ∈ before, q.wf = true) → tail ≠ [] → decodeRecord tail = .error miss →
    openStart (encodeScript before ++ tail) s →
    let run := scriptTurns s.sentCount before ++ [.block]
    s.turns = run ++ ts →
    decodeScript (encodeScript before ++ tail) = .error ⟨before.length, miss, (encodeScript before).length⟩
    ∧ ∃ t, runSteps run.length s = .next t
      ∧ t.session = .failed ∧ t.busyOp = .idle ∧ t.result = .malformedScript ∧ t.pending = none
      ∧ t.trace = s.trace ++ answeredOk (scriptRequests before)
      ∧ t.err.record.toNat = before.length ∧ t.err.field = missingField miss
      ∧ t.err.offset.toNat = (encodeScript before).length
      ∧ t.recDone.toNat = before.length ∧ t.turns = ts

/-- R102, R177, R178: a COMMIT run over a valid stack, with every request answered `ok`, sends one non-empty
data request for each chunk, row by row or up to each end the partition lists, and nothing else; the bytes
of the requests joined are those of the resolved frame, whatever the chunking. -/
def Obligations.CommitStreamsTheWholeFrame : Prop :=
  ∀ (s : State), s.Legal → s.busyOp = .committing → s.stage = .validate → firstInvalid s = none →
    let reqs := frameRequests s.cfg.pixelBe (resolveFrame s) 0 (chunkEnds s.cfg)
    let run := Turn.block :: .block :: (okTurns s.sentCount reqs.length ++ [.block])
    (s.cfg.chunking = .perRow → reqs.length = s.cfg.frameH)
    ∧ (∀ ends, s.cfg.chunking = .endsAt ends → reqs.length = ends.length)
    ∧ (∀ r ∈ reqs, ∃ b bs, r = .data (b :: bs))
    ∧ dataBytes reqs = frameBytes s.cfg.pixelBe (resolveFrame s)
    ∧ ∀ ts, ∃ t, runSteps run.length { s with turns := run ++ ts } = .next t
      ∧ t.session = .opened ∧ t.busyOp = .idle ∧ t.result = .ok ∧ t.pending = none
      ∧ t.pixSent.toNat = s.cfg.framePixels
      ∧ t.trace = s.trace ++ answeredOk reqs ∧ t.turns = ts

/-! ### Invariants and rules of the whole machine -/

/-- Every step from a legal state leads to a legal state. -/
def Obligations.StepKeepsLegal : Prop :=
  ∀ s t : State, s.Legal → step s = .next t → t.Legal

/-- The state after reset is legal, in every legal configuration, and so is the one the machine starts
in. -/
def Obligations.ResetIsLegal : Prop :=
  (∀ c : Config, c.wf = true → (State.resetWith c).Legal) ∧ State.reset.Legal

/-- A legal state never stops: every step answers a next state. -/
def Obligations.LegalStateNeverStops : Prop :=
  ∀ s : State, s.Legal → ∃ t, step s = .next t

/-- R203: every transition of the session. -/
def Obligations.SessionTransitions : Prop :=
  ∀ s t : State, s.Legal → step s = .next t → t.session ≠ s.session →
    (t.session = .closed ∧ ((∃ ts, s.turns = .reset :: ts) ∨ s.busyOp = .idle ∧ t.busyOp = .opening))
    ∨ (s.session = .closed ∧ s.busyOp = .opening ∧ t.busyOp = .idle ∧ t.session = .opened ∧ t.result = .ok)
    ∨ (s.session = .closed ∧ s.busyOp = .opening ∧ t.busyOp = .idle ∧ t.session = .failed
      ∧ (t.result = .malformedScript ∨ t.result = .transportFailure))

/-- R76, R246: the trace only grows; a step sends at most one request, and only while none is pending; an
answer is recorded only for the pending request. -/
def Obligations.OneRequestAtATime : Prop :=
  ∀ s t : State, step s = .next t →
    t.trace = s.trace
    ∨ (∃ r, s.pending = none ∧ t.pending = some r ∧ t.trace = s.trace ++ [.sent r])
    ∨ (∃ r a, s.pending = some r ∧ t.pending = none ∧ t.trace = s.trace ++ [.answered a])

/-- R179: a COMMIT run sends data only. -/
def Obligations.CommitSendsDataOnly : Prop :=
  ∀ (s t : State) (r : TxReq), s.busyOp = .committing → step s = .next t →
    t.trace = s.trace ++ [.sent r] → ∃ bs, r = .data bs

/-- R61, R79, R83: during a run no step but a reset changes SCRIPT, PALETTE, BITMAP or LAYER; the
configuration never changes. -/
def Obligations.MemoriesAreFixedDuringARun : Prop :=
  ∀ s t : State, step s = .next t →
    t.cfg = s.cfg
    ∧ (s.busyOp ≠ .idle → (∀ ts, s.turns ≠ .reset :: ts) →
      t.script = s.script ∧ t.scriptLen = s.scriptLen ∧ t.palettes = s.palettes ∧ t.bitmaps = s.bitmaps
      ∧ t.layers = s.layers ∧ t.layerCount = s.layerCount)
end

