-- ==== Sys2Proof/Laws/Decode.lean ====
section
/-! SUPPORT. The laws of the descriptor and of decoding a record. -/

namespace Sys2Proof

theorem descLen_descByte (d : Bool) {n : Nat} (h : n ≤ 127) : descLen (descByte d n) = n := by
  interval_cases n <;> cases d <;> rfl

theorem descDelay_descByte (d : Bool) {n : Nat} (h : n ≤ 127) : descDelay (descByte d n) = d := by
  interval_cases n <;> cases d <;> rfl

theorem descLen_le (desc : Byte) : descLen desc ≤ 127 := by
  have := (desc.extractLsb' 0 7).isLt
  unfold descLen
  omega

/-- The descriptor is told by its two fields. -/
theorem descByte_fields (desc : Byte) : descByte (descDelay desc) (descLen desc) = desc := by
  revert desc
  decide

@[simp] theorem Record.length_eq (r : Record) :
    r.length = 2 + r.data.length + r.delay.isSome.toNat := rfl

theorem encodeRecord_length (r : Record) : (encodeRecord r).length = r.length := by
  cases h : r.delay <;> simp [encodeRecord, Record.length, h] <;> omega

theorem recordSpan_encodeRecord {r : Record} (h : r.wf = true) (rest : List Byte) :
    recordSpan (encodeRecord r ++ rest) = r.length := by
  have h : r.data.length ≤ 127 := by simpa [Record.wf] using h
  simp [encodeRecord, recordSpan, descLen_descByte _ h, descDelay_descByte _ h]

/-- Decoding the encoding of a record gives it back, whatever follows. -/
theorem decodeRecord_encodeRecord {r : Record} (h : r.wf = true) (rest : List Byte) :
    decodeRecord (encodeRecord r ++ rest) = .ok (r, rest) := by
  have h : r.data.length ≤ 127 := by simpa [Record.wf] using h
  obtain ⟨opcode, data, delay⟩ := r
  cases delay <;>
    simp only [encodeRecord, Option.isSome_none, Option.isSome_some, Option.toList_none, Option.toList_some,
      List.append_nil, List.cons_append, List.nil_append, List.append_assoc, decodeRecord,
      descLen_descByte _ h, descDelay_descByte _ h] <;> simp

/-- What is known when a record decodes: it is well formed, and the stream is its encoding and the rest. -/
theorem decodeRecord_ok {bs rest : List Byte} {r : Record} (h : decodeRecord bs = .ok (r, rest)) :
    r.wf = true ∧ bs = encodeRecord r ++ rest := by
  match bs, h with
  | opcode :: desc :: tail, h =>
    simp only [decodeRecord] at h
    split at h
    · cases h
    · rename_i hlen
      have hle := descLen_le desc
      have htake : (tail.take (descLen desc)).length = descLen desc := by simp; omega
      split at h
      · rename_i hd
        split at h
        · cases h
        · rename_i ms rest' hdrop
          cases h
          refine ⟨by simp [Record.wf, htake, hle], ?_⟩
          have hb := descByte_fields desc
          rw [hd] at hb
          have : tail = tail.take (descLen desc) ++ ms :: rest := by rw [← hdrop, List.take_append_drop]
          simp only [encodeRecord, Option.isSome_some, htake, hb, Option.toList_some, List.cons_append,
            List.nil_append, List.append_assoc, List.cons.injEq, true_and]
          exact this
      · rename_i hd
        cases h
        refine ⟨by simp [Record.wf, htake, hle], ?_⟩
        have hb := descByte_fields desc
        rw [Bool.not_eq_true] at hd
        rw [hd] at hb
        simp [encodeRecord, htake, hb]

/-- The instruction of a well-formed record is in canonical form. -/
theorem classify_wf (c : Config) {r : Record} (h : r.wf = true) : WellFormed c (classify c r) = true := by
  have h : r.data.length ≤ 127 := by simpa [Record.wf] using h
  obtain ⟨opcode, data, delay⟩ := r
  cases data with
  | nil => cases delay <;> rfl
  | cons b bs =>
    have hp : payloadOk (b :: bs) = true := by simpa [payloadOk] using h
    simp only [classify]
    split
    · simpa [WellFormed] using hp
    · split
      · rename_i h1 h2
        simp [WellFormed, hp, ← h2, h1]
      · rename_i h1 h2
        cases delay <;> simp [WellFormed, hp, h1, h2]

/-- The record of a record's instruction is the record. -/
theorem recordOf_classify (c : Config) (r : Record) : recordOf c (classify c r) = some r := by
  obtain ⟨opcode, data, delay⟩ := r
  cases data with
  | nil => cases delay <;> rfl
  | cons b bs =>
    simp only [classify]
    split
    · rename_i h
      simp [recordOf, h]
    · split
      · rename_i h
        simp [recordOf, h]
      · cases delay <;> rfl

/-- The instruction of the record of a well-formed instruction is the instruction. -/
theorem classify_recordOf {c : Config} {i : Instr} {r : Record} (hw : WellFormed c i = true)
    (h : recordOf c i = some r) : classify c r = i ∧ r.wf = true ∧ encode c i = .record (encodeRecord r) := by
  cases i <;> simp only [recordOf, Option.some.injEq, reduceCtorEq] at h <;> subst h
  case cmd opcode => exact ⟨rfl, rfl, rfl⟩
  case cmdDelay opcode ms => exact ⟨rfl, rfl, rfl⟩
  case cmdData opcode data =>
    cases data <;> simp_all [WellFormed, payloadOk, classify, Record.wf, encode]
  case cmdDataDelay opcode data ms =>
    cases data <;> simp_all [WellFormed, payloadOk, classify, Record.wf, encode]
  case snoopPixfmt data delay =>
    cases data <;> simp_all [WellFormed, payloadOk, classify, Record.wf, encode]
  case snoopMadctl data delay =>
    cases data <;> simp_all [WellFormed, payloadOk, classify, Record.wf, encode]

end Sys2Proof
end

