-- ==== Sys2Proof/Laws/Memory.lean ====
section
/-! SUPPORT. The laws of script memory: a read after a write, and the canonical form. -/

namespace Sys2Proof.Machine

theorem Memory.reset_wf (c : Config) : Memory.wf (State.resetWith c).script := List.Pairwise.nil

/-- The offsets after a write are the old ones and the one written. -/
theorem Memory.mem_write {m : Memory} {a : Nat} {b : Byte} {c : Host.Cell} (h : c ∈ m.write a b) :
    c = (a, b) ∨ c ∈ m := by
  induction m with
  | nil => simpa [Memory.write] using h
  | cons kv m ih =>
    obtain ⟨k, v⟩ := kv
    unfold Memory.write at h
    split at h
    · simpa using h
    · split at h
      · rcases List.mem_cons.1 h with h | h
        · exact .inl h
        · exact .inr (List.mem_cons_of_mem _ h)
      · rcases List.mem_cons.1 h with h | h
        · exact .inr (h ▸ List.mem_cons_self)
        · rcases ih h with h | h
          · exact .inl h
          · exact .inr (List.mem_cons_of_mem _ h)

/-- A write keeps the canonical form. -/
theorem Memory.write_wf {m : Memory} (h : m.wf) (a : Nat) (b : Byte) : Memory.wf (m.write a b) := by
  induction m with
  | nil => simp [Memory.write, Memory.wf]
  | cons kv m ih =>
    obtain ⟨k, v⟩ := kv
    obtain ⟨hk, hm⟩ := List.pairwise_cons.1 h
    unfold Memory.write
    split
    · rename_i hak
      refine List.pairwise_cons.2 ⟨fun c hc => ?_, h⟩
      rcases List.mem_cons.1 hc with rfl | hc
      · exact hak
      · exact lt_trans hak (hk c hc)
    · split
      · rename_i hak
        exact List.pairwise_cons.2 ⟨fun c hc => hak ▸ hk c hc, hm⟩
      · refine List.pairwise_cons.2 ⟨fun c hc => ?_, ih hm⟩
        rcases Memory.mem_write hc with rfl | hc
        · show k < a
          omega
        · exact hk c hc

/-- Writing a list of bytes keeps the canonical form. -/
theorem Memory.writeBytes_wf {m : Memory} (h : m.wf) (a : Nat) (bs : List Byte) :
    Memory.wf (m.writeBytes a bs) := by
  induction bs generalizing m a with
  | nil => exact h
  | cons b bs ih => exact ih (Memory.write_wf h a b) (a + 1)

@[simp] theorem Memory.read_write_same (m : Memory) (a : Nat) (b : Byte) : (m.write a b).read a = some b := by
  induction m with
  | nil => simp [Memory.write, Memory.read]
  | cons kv m ih =>
    obtain ⟨k, v⟩ := kv
    unfold Memory.write
    split
    · simp [Memory.read]
    · split
      · simp [Memory.read]
      · rename_i hne
        simp only [Memory.read, if_neg (Ne.symm hne), ih]

theorem Memory.read_write_other (m : Memory) {a c : Nat} (b : Byte) (hc : c ≠ a) :
    (m.write a b).read c = m.read c := by
  induction m with
  | nil => simp [Memory.write, Memory.read, Ne.symm hc]
  | cons kv m ih =>
    obtain ⟨k, v⟩ := kv
    unfold Memory.write
    split
    · simp [Memory.read, Ne.symm hc]
    · split
      · rename_i hak
        simp [Memory.read, ← hak, Ne.symm hc]
      · simp only [Memory.read, ih]

/-- A byte outside the written range reads as before. -/
theorem Memory.read_writeBytes_other (m : Memory) {a c : Nat} (bs : List Byte) (hc : c < a ∨ a + bs.length ≤ c) :
    (m.writeBytes a bs).read c = m.read c := by
  induction bs generalizing m a with
  | nil => rfl
  | cons b bs ih =>
    simp only [List.length_cons] at hc
    rw [Memory.writeBytes, ih _ (by omega), Memory.read_write_other _ _ (by omega)]

/-- The byte at place `j` of the written list. -/
theorem Memory.read_writeBytes (m : Memory) (a : Nat) (bs : List Byte) {j : Nat} (hj : j < bs.length) :
    (m.writeBytes a bs).read (a + j) = some bs[j] := by
  induction bs generalizing m a j with
  | nil => exact absurd hj (by simp)
  | cons b bs ih =>
    cases j with
    | zero =>
      rw [Memory.writeBytes, Memory.read_writeBytes_other _ _ (.inl (by omega))]
      simp
    | succ j =>
      have h := ih (m.write a b) (a + 1) (j := j) (by simpa using hj)
      simpa [Memory.writeBytes, Nat.add_assoc, Nat.add_comm 1 j] using h

/-- `readBytes` gives a list exactly when each of its bytes is read. -/
theorem Memory.readBytes_eq_some {m : Memory} {a n : Nat} {bs : List Byte} :
    m.readBytes a n = some bs ↔ bs.length = n ∧ ∀ j (hj : j < bs.length), m.read (a + j) = some bs[j] := by
  induction n generalizing a bs with
  | zero =>
    constructor
    · intro h
      obtain rfl : [] = bs := by simpa [Memory.readBytes] using h
      simp
    · rintro ⟨h, -⟩
      simp [Memory.readBytes, List.length_eq_zero_iff.1 h]
  | succ n ih =>
    rw [Memory.readBytes]
    constructor
    · intro h
      split at h
      · rename_i b bs' hb hbs
        cases h
        obtain ⟨hl, hr⟩ := ih.1 hbs
        refine ⟨by simp [hl], fun j hj => ?_⟩
        cases j with
        | zero => simpa using hb
        | succ j =>
          have := hr j (by simpa using hj)
          simpa [Nat.add_assoc, Nat.add_comm 1 j] using this
      · cases h
    · rintro ⟨hl, hr⟩
      cases bs with
      | nil => simp at hl
      | cons b bs =>
        have hb : m.read a = some b := hr 0 (by simp)
        have hbs : m.readBytes (a + 1) n = some bs := by
          refine ih.2 ⟨by simpa using hl, fun j hj => ?_⟩
          have := hr (j + 1) (by simpa using hj)
          simpa [Nat.add_assoc, Nat.add_comm 1 j] using this
        simp [hb, hbs]

theorem Memory.readBytes_length {m : Memory} {a n : Nat} {bs : List Byte} (h : m.readBytes a n = some bs) :
    bs.length = n := (Memory.readBytes_eq_some.1 h).1

/-- The bytes a list was written from. -/
theorem Memory.readBytes_writeBytes (m : Memory) (a : Nat) (bs : List Byte) :
    (m.writeBytes a bs).readBytes a bs.length = some bs :=
  Memory.readBytes_eq_some.2 ⟨rfl, fun _ hj => Memory.read_writeBytes m a bs hj⟩

/-- Bytes that are all written can be read. -/
theorem Memory.readBytes_isSome {m : Memory} {a n : Nat} (h : ∀ j < n, (m.read (a + j)).isSome = true) :
    ∃ bs, m.readBytes a n = some bs := by
  induction n generalizing a with
  | zero => exact ⟨[], rfl⟩
  | succ n ih =>
    obtain ⟨b, hb⟩ := Option.isSome_iff_exists.1 (h 0 (by omega))
    obtain ⟨bs, hbs⟩ := ih (a := a + 1) (fun j hj => by
      have := h (j + 1) (by omega)
      simpa [Nat.add_assoc, Nat.add_comm 1 j] using this)
    exact ⟨b :: bs, by simp only [Nat.add_zero] at hb; simp [Memory.readBytes, hb, hbs]⟩

/-- A prefix, or a later part, of bytes that can be read. -/
theorem Memory.readBytes_part {m : Memory} {a n : Nat} {bs : List Byte} (h : m.readBytes a n = some bs)
    {i k : Nat} (hik : i + k ≤ n) : m.readBytes (a + i) k = some ((bs.drop i).take k) := by
  obtain ⟨hl, hr⟩ := Memory.readBytes_eq_some.1 h
  refine Memory.readBytes_eq_some.2 ⟨by simp; omega, fun j hj => ?_⟩
  have hj' : j < k := by simp at hj; omega
  rw [Nat.add_assoc, hr (i + j) (by omega)]
  simp

end Sys2Proof.Machine
end

