-- ==== Sys2Proof/Laws/State.lean ====
section
/-! SUPPORT. What each named update of State does to each field: one lemma a field, so that no later proof
unfolds an update. -/

namespace Sys2Proof.Machine

variable (s : State)

/-! ### `respond` -/

@[simp] theorem respond_cfg (code : RespCode) : (respond code s).cfg = s.cfg := rfl
@[simp] theorem respond_session (code : RespCode) : (respond code s).session = s.session := rfl
@[simp] theorem respond_busyOp (code : RespCode) : (respond code s).busyOp = s.busyOp := rfl
@[simp] theorem respond_result (code : RespCode) : (respond code s).result = s.result := rfl
@[simp] theorem respond_ptr (code : RespCode) : (respond code s).ptr = s.ptr := rfl
@[simp] theorem respond_recIdx (code : RespCode) : (respond code s).recIdx = s.recIdx := rfl
@[simp] theorem respond_recDone (code : RespCode) : (respond code s).recDone = s.recDone := rfl
@[simp] theorem respond_pixSent (code : RespCode) : (respond code s).pixSent = s.pixSent := rfl
@[simp] theorem respond_err (code : RespCode) : (respond code s).err = s.err := rfl
@[simp] theorem respond_cfgPixfmt (code : RespCode) : (respond code s).cfgPixfmt = s.cfgPixfmt := rfl
@[simp] theorem respond_cfgPixfmtValid (code : RespCode) : (respond code s).cfgPixfmtValid = s.cfgPixfmtValid := rfl
@[simp] theorem respond_cfgMadctl (code : RespCode) : (respond code s).cfgMadctl = s.cfgMadctl := rfl
@[simp] theorem respond_cfgMadctlValid (code : RespCode) : (respond code s).cfgMadctlValid = s.cfgMadctlValid := rfl
@[simp] theorem respond_latch (code : RespCode) : (respond code s).latch = s.latch := rfl
@[simp] theorem respond_txMode (code : RespCode) : (respond code s).txMode = s.txMode := rfl
@[simp] theorem respond_pending (code : RespCode) : (respond code s).pending = s.pending := rfl
@[simp] theorem respond_frame (code : RespCode) : (respond code s).frame = s.frame := rfl
@[simp] theorem respond_chunkPos (code : RespCode) : (respond code s).chunkPos = s.chunkPos := rfl
@[simp] theorem respond_script (code : RespCode) : (respond code s).script = s.script := rfl
@[simp] theorem respond_scriptLen (code : RespCode) : (respond code s).scriptLen = s.scriptLen := rfl
@[simp] theorem respond_palettes (code : RespCode) : (respond code s).palettes = s.palettes := rfl
@[simp] theorem respond_bitmaps (code : RespCode) : (respond code s).bitmaps = s.bitmaps := rfl
@[simp] theorem respond_layers (code : RespCode) : (respond code s).layers = s.layers := rfl
@[simp] theorem respond_layerCount (code : RespCode) : (respond code s).layerCount = s.layerCount := rfl
@[simp] theorem respond_stage (code : RespCode) : (respond code s).stage = s.stage := rfl
@[simp] theorem respond_reply (code : RespCode) : (respond code s).reply = s.reply := rfl
@[simp] theorem respond_turns (code : RespCode) : (respond code s).turns = s.turns := rfl
@[simp] theorem respond_trace (code : RespCode) : (respond code s).trace = s.trace := rfl
@[simp] theorem respond_response (code : RespCode) : (respond code s).response = some ⟨code, 0⟩ := rfl

/-! ### `respondValue` -/

@[simp] theorem respondValue_cfg (v : BitVec 32) : (respondValue v s).cfg = s.cfg := rfl
@[simp] theorem respondValue_session (v : BitVec 32) : (respondValue v s).session = s.session := rfl
@[simp] theorem respondValue_busyOp (v : BitVec 32) : (respondValue v s).busyOp = s.busyOp := rfl
@[simp] theorem respondValue_result (v : BitVec 32) : (respondValue v s).result = s.result := rfl
@[simp] theorem respondValue_ptr (v : BitVec 32) : (respondValue v s).ptr = s.ptr := rfl
@[simp] theorem respondValue_recIdx (v : BitVec 32) : (respondValue v s).recIdx = s.recIdx := rfl
@[simp] theorem respondValue_recDone (v : BitVec 32) : (respondValue v s).recDone = s.recDone := rfl
@[simp] theorem respondValue_pixSent (v : BitVec 32) : (respondValue v s).pixSent = s.pixSent := rfl
@[simp] theorem respondValue_err (v : BitVec 32) : (respondValue v s).err = s.err := rfl
@[simp] theorem respondValue_cfgPixfmt (v : BitVec 32) : (respondValue v s).cfgPixfmt = s.cfgPixfmt := rfl
@[simp] theorem respondValue_cfgPixfmtValid (v : BitVec 32) : (respondValue v s).cfgPixfmtValid = s.cfgPixfmtValid := rfl
@[simp] theorem respondValue_cfgMadctl (v : BitVec 32) : (respondValue v s).cfgMadctl = s.cfgMadctl := rfl
@[simp] theorem respondValue_cfgMadctlValid (v : BitVec 32) : (respondValue v s).cfgMadctlValid = s.cfgMadctlValid := rfl
@[simp] theorem respondValue_latch (v : BitVec 32) : (respondValue v s).latch = s.latch := rfl
@[simp] theorem respondValue_txMode (v : BitVec 32) : (respondValue v s).txMode = s.txMode := rfl
@[simp] theorem respondValue_pending (v : BitVec 32) : (respondValue v s).pending = s.pending := rfl
@[simp] theorem respondValue_frame (v : BitVec 32) : (respondValue v s).frame = s.frame := rfl
@[simp] theorem respondValue_chunkPos (v : BitVec 32) : (respondValue v s).chunkPos = s.chunkPos := rfl
@[simp] theorem respondValue_script (v : BitVec 32) : (respondValue v s).script = s.script := rfl
@[simp] theorem respondValue_scriptLen (v : BitVec 32) : (respondValue v s).scriptLen = s.scriptLen := rfl
@[simp] theorem respondValue_palettes (v : BitVec 32) : (respondValue v s).palettes = s.palettes := rfl
@[simp] theorem respondValue_bitmaps (v : BitVec 32) : (respondValue v s).bitmaps = s.bitmaps := rfl
@[simp] theorem respondValue_layers (v : BitVec 32) : (respondValue v s).layers = s.layers := rfl
@[simp] theorem respondValue_layerCount (v : BitVec 32) : (respondValue v s).layerCount = s.layerCount := rfl
@[simp] theorem respondValue_stage (v : BitVec 32) : (respondValue v s).stage = s.stage := rfl
@[simp] theorem respondValue_reply (v : BitVec 32) : (respondValue v s).reply = s.reply := rfl
@[simp] theorem respondValue_turns (v : BitVec 32) : (respondValue v s).turns = s.turns := rfl
@[simp] theorem respondValue_trace (v : BitVec 32) : (respondValue v s).trace = s.trace := rfl
@[simp] theorem respondValue_response (v : BitVec 32) : (respondValue v s).response = some ⟨.accepted, v⟩ := rfl

/-! ### `issue` -/

@[simp] theorem issue_cfg (r : TxReq) : (issue r s).cfg = s.cfg := rfl
@[simp] theorem issue_session (r : TxReq) : (issue r s).session = s.session := rfl
@[simp] theorem issue_busyOp (r : TxReq) : (issue r s).busyOp = s.busyOp := rfl
@[simp] theorem issue_result (r : TxReq) : (issue r s).result = s.result := rfl
@[simp] theorem issue_ptr (r : TxReq) : (issue r s).ptr = s.ptr := rfl
@[simp] theorem issue_recIdx (r : TxReq) : (issue r s).recIdx = s.recIdx := rfl
@[simp] theorem issue_recDone (r : TxReq) : (issue r s).recDone = s.recDone := rfl
@[simp] theorem issue_pixSent (r : TxReq) : (issue r s).pixSent = s.pixSent := rfl
@[simp] theorem issue_err (r : TxReq) : (issue r s).err = s.err := rfl
@[simp] theorem issue_cfgPixfmt (r : TxReq) : (issue r s).cfgPixfmt = s.cfgPixfmt := rfl
@[simp] theorem issue_cfgPixfmtValid (r : TxReq) : (issue r s).cfgPixfmtValid = s.cfgPixfmtValid := rfl
@[simp] theorem issue_cfgMadctl (r : TxReq) : (issue r s).cfgMadctl = s.cfgMadctl := rfl
@[simp] theorem issue_cfgMadctlValid (r : TxReq) : (issue r s).cfgMadctlValid = s.cfgMadctlValid := rfl
@[simp] theorem issue_latch (r : TxReq) : (issue r s).latch = s.latch := rfl
@[simp] theorem issue_txMode (r : TxReq) : (issue r s).txMode = r.modeAfter s.txMode := rfl
@[simp] theorem issue_pending (r : TxReq) : (issue r s).pending = some r := rfl
@[simp] theorem issue_frame (r : TxReq) : (issue r s).frame = s.frame := rfl
@[simp] theorem issue_chunkPos (r : TxReq) : (issue r s).chunkPos = s.chunkPos := rfl
@[simp] theorem issue_script (r : TxReq) : (issue r s).script = s.script := rfl
@[simp] theorem issue_scriptLen (r : TxReq) : (issue r s).scriptLen = s.scriptLen := rfl
@[simp] theorem issue_palettes (r : TxReq) : (issue r s).palettes = s.palettes := rfl
@[simp] theorem issue_bitmaps (r : TxReq) : (issue r s).bitmaps = s.bitmaps := rfl
@[simp] theorem issue_layers (r : TxReq) : (issue r s).layers = s.layers := rfl
@[simp] theorem issue_layerCount (r : TxReq) : (issue r s).layerCount = s.layerCount := rfl
@[simp] theorem issue_stage (r : TxReq) : (issue r s).stage = s.stage := rfl
@[simp] theorem issue_reply (r : TxReq) : (issue r s).reply = s.reply := rfl
@[simp] theorem issue_turns (r : TxReq) : (issue r s).turns = s.turns := rfl
@[simp] theorem issue_trace (r : TxReq) : (issue r s).trace = s.trace ++ [.sent r] := rfl
@[simp] theorem issue_response (r : TxReq) : (issue r s).response = s.response := rfl

/-! ### `acknowledge` -/

@[simp] theorem acknowledge_cfg (a : Answer) : (acknowledge a s).cfg = s.cfg := rfl
@[simp] theorem acknowledge_session (a : Answer) : (acknowledge a s).session = s.session := rfl
@[simp] theorem acknowledge_busyOp (a : Answer) : (acknowledge a s).busyOp = s.busyOp := rfl
@[simp] theorem acknowledge_result (a : Answer) : (acknowledge a s).result = s.result := rfl
@[simp] theorem acknowledge_ptr (a : Answer) : (acknowledge a s).ptr = s.ptr := rfl
@[simp] theorem acknowledge_recIdx (a : Answer) : (acknowledge a s).recIdx = s.recIdx := rfl
@[simp] theorem acknowledge_recDone (a : Answer) : (acknowledge a s).recDone = s.recDone := rfl
@[simp] theorem acknowledge_pixSent (a : Answer) : (acknowledge a s).pixSent = s.pixSent := rfl
@[simp] theorem acknowledge_err (a : Answer) : (acknowledge a s).err = s.err := rfl
@[simp] theorem acknowledge_cfgPixfmt (a : Answer) : (acknowledge a s).cfgPixfmt = s.cfgPixfmt := rfl
@[simp] theorem acknowledge_cfgPixfmtValid (a : Answer) : (acknowledge a s).cfgPixfmtValid = s.cfgPixfmtValid := rfl
@[simp] theorem acknowledge_cfgMadctl (a : Answer) : (acknowledge a s).cfgMadctl = s.cfgMadctl := rfl
@[simp] theorem acknowledge_cfgMadctlValid (a : Answer) : (acknowledge a s).cfgMadctlValid = s.cfgMadctlValid := rfl
@[simp] theorem acknowledge_latch (a : Answer) : (acknowledge a s).latch = s.latch := rfl
@[simp] theorem acknowledge_txMode (a : Answer) : (acknowledge a s).txMode = s.txMode := rfl
@[simp] theorem acknowledge_pending (a : Answer) : (acknowledge a s).pending = none := rfl
@[simp] theorem acknowledge_frame (a : Answer) : (acknowledge a s).frame = s.frame := rfl
@[simp] theorem acknowledge_chunkPos (a : Answer) : (acknowledge a s).chunkPos = s.chunkPos := rfl
@[simp] theorem acknowledge_script (a : Answer) : (acknowledge a s).script = s.script := rfl
@[simp] theorem acknowledge_scriptLen (a : Answer) : (acknowledge a s).scriptLen = s.scriptLen := rfl
@[simp] theorem acknowledge_palettes (a : Answer) : (acknowledge a s).palettes = s.palettes := rfl
@[simp] theorem acknowledge_bitmaps (a : Answer) : (acknowledge a s).bitmaps = s.bitmaps := rfl
@[simp] theorem acknowledge_layers (a : Answer) : (acknowledge a s).layers = s.layers := rfl
@[simp] theorem acknowledge_layerCount (a : Answer) : (acknowledge a s).layerCount = s.layerCount := rfl
@[simp] theorem acknowledge_stage (a : Answer) : (acknowledge a s).stage = s.stage := rfl
@[simp] theorem acknowledge_reply (a : Answer) : (acknowledge a s).reply = none := rfl
@[simp] theorem acknowledge_turns (a : Answer) : (acknowledge a s).turns = s.turns := rfl
@[simp] theorem acknowledge_trace (a : Answer) : (acknowledge a s).trace = s.trace ++ [.answered a] := rfl
@[simp] theorem acknowledge_response (a : Answer) : (acknowledge a s).response = s.response := rfl

/-! ### `raise` -/

@[simp] theorem raise_cfg (info : ErrRegs) : (raise info s).cfg = s.cfg := rfl
@[simp] theorem raise_session (info : ErrRegs) : (raise info s).session = if s.busyOp = .opening then .failed else s.session := rfl
@[simp] theorem raise_busyOp (info : ErrRegs) : (raise info s).busyOp = .idle := rfl
@[simp] theorem raise_result (info : ErrRegs) : (raise info s).result = info.field.result := rfl
@[simp] theorem raise_ptr (info : ErrRegs) : (raise info s).ptr = s.ptr := rfl
@[simp] theorem raise_recIdx (info : ErrRegs) : (raise info s).recIdx = s.recIdx := rfl
@[simp] theorem raise_recDone (info : ErrRegs) : (raise info s).recDone = s.recDone := rfl
@[simp] theorem raise_pixSent (info : ErrRegs) : (raise info s).pixSent = s.pixSent := rfl
@[simp] theorem raise_err (info : ErrRegs) : (raise info s).err = info := rfl
@[simp] theorem raise_cfgPixfmt (info : ErrRegs) : (raise info s).cfgPixfmt = s.cfgPixfmt := rfl
@[simp] theorem raise_cfgPixfmtValid (info : ErrRegs) : (raise info s).cfgPixfmtValid = s.cfgPixfmtValid := rfl
@[simp] theorem raise_cfgMadctl (info : ErrRegs) : (raise info s).cfgMadctl = s.cfgMadctl := rfl
@[simp] theorem raise_cfgMadctlValid (info : ErrRegs) : (raise info s).cfgMadctlValid = s.cfgMadctlValid := rfl
@[simp] theorem raise_latch (info : ErrRegs) : (raise info s).latch = s.latch := rfl
@[simp] theorem raise_txMode (info : ErrRegs) : (raise info s).txMode = s.txMode := rfl
@[simp] theorem raise_pending (info : ErrRegs) : (raise info s).pending = none := rfl
@[simp] theorem raise_frame (info : ErrRegs) : (raise info s).frame = s.frame := rfl
@[simp] theorem raise_chunkPos (info : ErrRegs) : (raise info s).chunkPos = s.chunkPos := rfl
@[simp] theorem raise_script (info : ErrRegs) : (raise info s).script = s.script := rfl
@[simp] theorem raise_scriptLen (info : ErrRegs) : (raise info s).scriptLen = s.scriptLen := rfl
@[simp] theorem raise_palettes (info : ErrRegs) : (raise info s).palettes = s.palettes := rfl
@[simp] theorem raise_bitmaps (info : ErrRegs) : (raise info s).bitmaps = s.bitmaps := rfl
@[simp] theorem raise_layers (info : ErrRegs) : (raise info s).layers = s.layers := rfl
@[simp] theorem raise_layerCount (info : ErrRegs) : (raise info s).layerCount = s.layerCount := rfl
@[simp] theorem raise_stage (info : ErrRegs) : (raise info s).stage = s.stage := rfl
@[simp] theorem raise_reply (info : ErrRegs) : (raise info s).reply = s.reply := rfl
@[simp] theorem raise_turns (info : ErrRegs) : (raise info s).turns = s.turns := rfl
@[simp] theorem raise_trace (info : ErrRegs) : (raise info s).trace = s.trace := rfl
@[simp] theorem raise_response (info : ErrRegs) : (raise info s).response = s.response := rfl

/-! ### `startOpen` -/

@[simp] theorem startOpen_cfg : (startOpen s).cfg = s.cfg := rfl
@[simp] theorem startOpen_session : (startOpen s).session = .closed := rfl
@[simp] theorem startOpen_busyOp : (startOpen s).busyOp = .opening := rfl
@[simp] theorem startOpen_result : (startOpen s).result = .none := rfl
@[simp] theorem startOpen_ptr : (startOpen s).ptr = 0 := rfl
@[simp] theorem startOpen_recIdx : (startOpen s).recIdx = 0 := rfl
@[simp] theorem startOpen_recDone : (startOpen s).recDone = 0 := rfl
@[simp] theorem startOpen_pixSent : (startOpen s).pixSent = s.pixSent := rfl
@[simp] theorem startOpen_err : (startOpen s).err = {} := rfl
@[simp] theorem startOpen_cfgPixfmt : (startOpen s).cfgPixfmt = 0 := rfl
@[simp] theorem startOpen_cfgPixfmtValid : (startOpen s).cfgPixfmtValid = false := rfl
@[simp] theorem startOpen_cfgMadctl : (startOpen s).cfgMadctl = 0 := rfl
@[simp] theorem startOpen_cfgMadctlValid : (startOpen s).cfgMadctlValid = false := rfl
@[simp] theorem startOpen_latch : (startOpen s).latch = s.latch := rfl
@[simp] theorem startOpen_txMode : (startOpen s).txMode = s.txMode := rfl
@[simp] theorem startOpen_pending : (startOpen s).pending = s.pending := rfl
@[simp] theorem startOpen_frame : (startOpen s).frame = s.frame := rfl
@[simp] theorem startOpen_chunkPos : (startOpen s).chunkPos = s.chunkPos := rfl
@[simp] theorem startOpen_script : (startOpen s).script = s.script := rfl
@[simp] theorem startOpen_scriptLen : (startOpen s).scriptLen = s.scriptLen := rfl
@[simp] theorem startOpen_palettes : (startOpen s).palettes = s.palettes := rfl
@[simp] theorem startOpen_bitmaps : (startOpen s).bitmaps = s.bitmaps := rfl
@[simp] theorem startOpen_layers : (startOpen s).layers = s.layers := rfl
@[simp] theorem startOpen_layerCount : (startOpen s).layerCount = s.layerCount := rfl
@[simp] theorem startOpen_stage : (startOpen s).stage = .fetch := rfl
@[simp] theorem startOpen_reply : (startOpen s).reply = s.reply := rfl
@[simp] theorem startOpen_turns : (startOpen s).turns = s.turns := rfl
@[simp] theorem startOpen_trace : (startOpen s).trace = s.trace := rfl
@[simp] theorem startOpen_response : (startOpen s).response = s.response := rfl

/-! ### `finishOpen` -/

@[simp] theorem finishOpen_cfg : (finishOpen s).cfg = s.cfg := rfl
@[simp] theorem finishOpen_session : (finishOpen s).session = .opened := rfl
@[simp] theorem finishOpen_busyOp : (finishOpen s).busyOp = .idle := rfl
@[simp] theorem finishOpen_result : (finishOpen s).result = .ok := rfl
@[simp] theorem finishOpen_ptr : (finishOpen s).ptr = s.ptr := rfl
@[simp] theorem finishOpen_recIdx : (finishOpen s).recIdx = s.recIdx := rfl
@[simp] theorem finishOpen_recDone : (finishOpen s).recDone = s.recDone := rfl
@[simp] theorem finishOpen_pixSent : (finishOpen s).pixSent = s.pixSent := rfl
@[simp] theorem finishOpen_err : (finishOpen s).err = s.err := rfl
@[simp] theorem finishOpen_cfgPixfmt : (finishOpen s).cfgPixfmt = s.cfgPixfmt := rfl
@[simp] theorem finishOpen_cfgPixfmtValid : (finishOpen s).cfgPixfmtValid = s.cfgPixfmtValid := rfl
@[simp] theorem finishOpen_cfgMadctl : (finishOpen s).cfgMadctl = s.cfgMadctl := rfl
@[simp] theorem finishOpen_cfgMadctlValid : (finishOpen s).cfgMadctlValid = s.cfgMadctlValid := rfl
@[simp] theorem finishOpen_latch : (finishOpen s).latch = s.latch := rfl
@[simp] theorem finishOpen_txMode : (finishOpen s).txMode = s.txMode := rfl
@[simp] theorem finishOpen_pending : (finishOpen s).pending = s.pending := rfl
@[simp] theorem finishOpen_frame : (finishOpen s).frame = s.frame := rfl
@[simp] theorem finishOpen_chunkPos : (finishOpen s).chunkPos = s.chunkPos := rfl
@[simp] theorem finishOpen_script : (finishOpen s).script = s.script := rfl
@[simp] theorem finishOpen_scriptLen : (finishOpen s).scriptLen = s.scriptLen := rfl
@[simp] theorem finishOpen_palettes : (finishOpen s).palettes = s.palettes := rfl
@[simp] theorem finishOpen_bitmaps : (finishOpen s).bitmaps = s.bitmaps := rfl
@[simp] theorem finishOpen_layers : (finishOpen s).layers = s.layers := rfl
@[simp] theorem finishOpen_layerCount : (finishOpen s).layerCount = s.layerCount := rfl
@[simp] theorem finishOpen_stage : (finishOpen s).stage = s.stage := rfl
@[simp] theorem finishOpen_reply : (finishOpen s).reply = s.reply := rfl
@[simp] theorem finishOpen_turns : (finishOpen s).turns = s.turns := rfl
@[simp] theorem finishOpen_trace : (finishOpen s).trace = s.trace := rfl
@[simp] theorem finishOpen_response : (finishOpen s).response = s.response := rfl

/-! ### `startCommit` -/

@[simp] theorem startCommit_cfg : (startCommit s).cfg = s.cfg := rfl
@[simp] theorem startCommit_session : (startCommit s).session = s.session := rfl
@[simp] theorem startCommit_busyOp : (startCommit s).busyOp = .committing := rfl
@[simp] theorem startCommit_result : (startCommit s).result = .none := rfl
@[simp] theorem startCommit_ptr : (startCommit s).ptr = s.ptr := rfl
@[simp] theorem startCommit_recIdx : (startCommit s).recIdx = s.recIdx := rfl
@[simp] theorem startCommit_recDone : (startCommit s).recDone = s.recDone := rfl
@[simp] theorem startCommit_pixSent : (startCommit s).pixSent = 0 := rfl
@[simp] theorem startCommit_err : (startCommit s).err = {} := rfl
@[simp] theorem startCommit_cfgPixfmt : (startCommit s).cfgPixfmt = s.cfgPixfmt := rfl
@[simp] theorem startCommit_cfgPixfmtValid : (startCommit s).cfgPixfmtValid = s.cfgPixfmtValid := rfl
@[simp] theorem startCommit_cfgMadctl : (startCommit s).cfgMadctl = s.cfgMadctl := rfl
@[simp] theorem startCommit_cfgMadctlValid : (startCommit s).cfgMadctlValid = s.cfgMadctlValid := rfl
@[simp] theorem startCommit_latch : (startCommit s).latch = s.latch := rfl
@[simp] theorem startCommit_txMode : (startCommit s).txMode = s.txMode := rfl
@[simp] theorem startCommit_pending : (startCommit s).pending = s.pending := rfl
@[simp] theorem startCommit_frame : (startCommit s).frame = s.frame := rfl
@[simp] theorem startCommit_chunkPos : (startCommit s).chunkPos = s.chunkPos := rfl
@[simp] theorem startCommit_script : (startCommit s).script = s.script := rfl
@[simp] theorem startCommit_scriptLen : (startCommit s).scriptLen = s.scriptLen := rfl
@[simp] theorem startCommit_palettes : (startCommit s).palettes = s.palettes := rfl
@[simp] theorem startCommit_bitmaps : (startCommit s).bitmaps = s.bitmaps := rfl
@[simp] theorem startCommit_layers : (startCommit s).layers = s.layers := rfl
@[simp] theorem startCommit_layerCount : (startCommit s).layerCount = s.layerCount := rfl
@[simp] theorem startCommit_stage : (startCommit s).stage = .validate := rfl
@[simp] theorem startCommit_reply : (startCommit s).reply = s.reply := rfl
@[simp] theorem startCommit_turns : (startCommit s).turns = s.turns := rfl
@[simp] theorem startCommit_trace : (startCommit s).trace = s.trace := rfl
@[simp] theorem startCommit_response : (startCommit s).response = s.response := rfl

/-! ### `finishCommit` -/

@[simp] theorem finishCommit_cfg : (finishCommit s).cfg = s.cfg := rfl
@[simp] theorem finishCommit_session : (finishCommit s).session = s.session := rfl
@[simp] theorem finishCommit_busyOp : (finishCommit s).busyOp = .idle := rfl
@[simp] theorem finishCommit_result : (finishCommit s).result = .ok := rfl
@[simp] theorem finishCommit_ptr : (finishCommit s).ptr = s.ptr := rfl
@[simp] theorem finishCommit_recIdx : (finishCommit s).recIdx = s.recIdx := rfl
@[simp] theorem finishCommit_recDone : (finishCommit s).recDone = s.recDone := rfl
@[simp] theorem finishCommit_pixSent : (finishCommit s).pixSent = s.pixSent := rfl
@[simp] theorem finishCommit_err : (finishCommit s).err = s.err := rfl
@[simp] theorem finishCommit_cfgPixfmt : (finishCommit s).cfgPixfmt = s.cfgPixfmt := rfl
@[simp] theorem finishCommit_cfgPixfmtValid : (finishCommit s).cfgPixfmtValid = s.cfgPixfmtValid := rfl
@[simp] theorem finishCommit_cfgMadctl : (finishCommit s).cfgMadctl = s.cfgMadctl := rfl
@[simp] theorem finishCommit_cfgMadctlValid : (finishCommit s).cfgMadctlValid = s.cfgMadctlValid := rfl
@[simp] theorem finishCommit_latch : (finishCommit s).latch = s.latch := rfl
@[simp] theorem finishCommit_txMode : (finishCommit s).txMode = s.txMode := rfl
@[simp] theorem finishCommit_pending : (finishCommit s).pending = s.pending := rfl
@[simp] theorem finishCommit_frame : (finishCommit s).frame = s.frame := rfl
@[simp] theorem finishCommit_chunkPos : (finishCommit s).chunkPos = s.chunkPos := rfl
@[simp] theorem finishCommit_script : (finishCommit s).script = s.script := rfl
@[simp] theorem finishCommit_scriptLen : (finishCommit s).scriptLen = s.scriptLen := rfl
@[simp] theorem finishCommit_palettes : (finishCommit s).palettes = s.palettes := rfl
@[simp] theorem finishCommit_bitmaps : (finishCommit s).bitmaps = s.bitmaps := rfl
@[simp] theorem finishCommit_layers : (finishCommit s).layers = s.layers := rfl
@[simp] theorem finishCommit_layerCount : (finishCommit s).layerCount = s.layerCount := rfl
@[simp] theorem finishCommit_stage : (finishCommit s).stage = s.stage := rfl
@[simp] theorem finishCommit_reply : (finishCommit s).reply = s.reply := rfl
@[simp] theorem finishCommit_turns : (finishCommit s).turns = s.turns := rfl
@[simp] theorem finishCommit_trace : (finishCommit s).trace = s.trace := rfl
@[simp] theorem finishCommit_response : (finishCommit s).response = s.response := rfl

/-! ### `goTo` -/

@[simp] theorem goTo_cfg (g : Stage) : (goTo g s).cfg = s.cfg := rfl
@[simp] theorem goTo_session (g : Stage) : (goTo g s).session = s.session := rfl
@[simp] theorem goTo_busyOp (g : Stage) : (goTo g s).busyOp = s.busyOp := rfl
@[simp] theorem goTo_result (g : Stage) : (goTo g s).result = s.result := rfl
@[simp] theorem goTo_ptr (g : Stage) : (goTo g s).ptr = s.ptr := rfl
@[simp] theorem goTo_recIdx (g : Stage) : (goTo g s).recIdx = s.recIdx := rfl
@[simp] theorem goTo_recDone (g : Stage) : (goTo g s).recDone = s.recDone := rfl
@[simp] theorem goTo_pixSent (g : Stage) : (goTo g s).pixSent = s.pixSent := rfl
@[simp] theorem goTo_err (g : Stage) : (goTo g s).err = s.err := rfl
@[simp] theorem goTo_cfgPixfmt (g : Stage) : (goTo g s).cfgPixfmt = s.cfgPixfmt := rfl
@[simp] theorem goTo_cfgPixfmtValid (g : Stage) : (goTo g s).cfgPixfmtValid = s.cfgPixfmtValid := rfl
@[simp] theorem goTo_cfgMadctl (g : Stage) : (goTo g s).cfgMadctl = s.cfgMadctl := rfl
@[simp] theorem goTo_cfgMadctlValid (g : Stage) : (goTo g s).cfgMadctlValid = s.cfgMadctlValid := rfl
@[simp] theorem goTo_latch (g : Stage) : (goTo g s).latch = s.latch := rfl
@[simp] theorem goTo_txMode (g : Stage) : (goTo g s).txMode = s.txMode := rfl
@[simp] theorem goTo_pending (g : Stage) : (goTo g s).pending = s.pending := rfl
@[simp] theorem goTo_frame (g : Stage) : (goTo g s).frame = s.frame := rfl
@[simp] theorem goTo_chunkPos (g : Stage) : (goTo g s).chunkPos = s.chunkPos := rfl
@[simp] theorem goTo_script (g : Stage) : (goTo g s).script = s.script := rfl
@[simp] theorem goTo_scriptLen (g : Stage) : (goTo g s).scriptLen = s.scriptLen := rfl
@[simp] theorem goTo_palettes (g : Stage) : (goTo g s).palettes = s.palettes := rfl
@[simp] theorem goTo_bitmaps (g : Stage) : (goTo g s).bitmaps = s.bitmaps := rfl
@[simp] theorem goTo_layers (g : Stage) : (goTo g s).layers = s.layers := rfl
@[simp] theorem goTo_layerCount (g : Stage) : (goTo g s).layerCount = s.layerCount := rfl
@[simp] theorem goTo_stage (g : Stage) : (goTo g s).stage = g := rfl
@[simp] theorem goTo_reply (g : Stage) : (goTo g s).reply = s.reply := rfl
@[simp] theorem goTo_turns (g : Stage) : (goTo g s).turns = s.turns := rfl
@[simp] theorem goTo_trace (g : Stage) : (goTo g s).trace = s.trace := rfl
@[simp] theorem goTo_response (g : Stage) : (goTo g s).response = s.response := rfl

/-! ### `completeRecord` -/

@[simp] theorem completeRecord_cfg (len : Nat) : (completeRecord len s).cfg = s.cfg := rfl
@[simp] theorem completeRecord_session (len : Nat) : (completeRecord len s).session = s.session := rfl
@[simp] theorem completeRecord_busyOp (len : Nat) : (completeRecord len s).busyOp = s.busyOp := rfl
@[simp] theorem completeRecord_result (len : Nat) : (completeRecord len s).result = s.result := rfl
@[simp] theorem completeRecord_ptr (len : Nat) : (completeRecord len s).ptr = s.ptr + BitVec.ofNat 16 len := rfl
@[simp] theorem completeRecord_recIdx (len : Nat) : (completeRecord len s).recIdx = s.recIdx + 1 := rfl
@[simp] theorem completeRecord_recDone (len : Nat) : (completeRecord len s).recDone = s.recDone + 1 := rfl
@[simp] theorem completeRecord_pixSent (len : Nat) : (completeRecord len s).pixSent = s.pixSent := rfl
@[simp] theorem completeRecord_err (len : Nat) : (completeRecord len s).err = s.err := rfl
@[simp] theorem completeRecord_cfgPixfmt (len : Nat) : (completeRecord len s).cfgPixfmt = s.cfgPixfmt := rfl
@[simp] theorem completeRecord_cfgPixfmtValid (len : Nat) : (completeRecord len s).cfgPixfmtValid = s.cfgPixfmtValid := rfl
@[simp] theorem completeRecord_cfgMadctl (len : Nat) : (completeRecord len s).cfgMadctl = s.cfgMadctl := rfl
@[simp] theorem completeRecord_cfgMadctlValid (len : Nat) : (completeRecord len s).cfgMadctlValid = s.cfgMadctlValid := rfl
@[simp] theorem completeRecord_latch (len : Nat) : (completeRecord len s).latch = s.latch := rfl
@[simp] theorem completeRecord_txMode (len : Nat) : (completeRecord len s).txMode = s.txMode := rfl
@[simp] theorem completeRecord_pending (len : Nat) : (completeRecord len s).pending = s.pending := rfl
@[simp] theorem completeRecord_frame (len : Nat) : (completeRecord len s).frame = s.frame := rfl
@[simp] theorem completeRecord_chunkPos (len : Nat) : (completeRecord len s).chunkPos = s.chunkPos := rfl
@[simp] theorem completeRecord_script (len : Nat) : (completeRecord len s).script = s.script := rfl
@[simp] theorem completeRecord_scriptLen (len : Nat) : (completeRecord len s).scriptLen = s.scriptLen := rfl
@[simp] theorem completeRecord_palettes (len : Nat) : (completeRecord len s).palettes = s.palettes := rfl
@[simp] theorem completeRecord_bitmaps (len : Nat) : (completeRecord len s).bitmaps = s.bitmaps := rfl
@[simp] theorem completeRecord_layers (len : Nat) : (completeRecord len s).layers = s.layers := rfl
@[simp] theorem completeRecord_layerCount (len : Nat) : (completeRecord len s).layerCount = s.layerCount := rfl
@[simp] theorem completeRecord_stage (len : Nat) : (completeRecord len s).stage = .fetch := rfl
@[simp] theorem completeRecord_reply (len : Nat) : (completeRecord len s).reply = s.reply := rfl
@[simp] theorem completeRecord_turns (len : Nat) : (completeRecord len s).turns = s.turns := rfl
@[simp] theorem completeRecord_trace (len : Nat) : (completeRecord len s).trace = s.trace := rfl
@[simp] theorem completeRecord_response (len : Nat) : (completeRecord len s).response = s.response := rfl

/-! ### `loadBytes` -/

@[simp] theorem loadBytes_cfg (bytes : List Byte) : (loadBytes bytes s).cfg = s.cfg := rfl
@[simp] theorem loadBytes_session (bytes : List Byte) : (loadBytes bytes s).session = s.session := rfl
@[simp] theorem loadBytes_busyOp (bytes : List Byte) : (loadBytes bytes s).busyOp = s.busyOp := rfl
@[simp] theorem loadBytes_result (bytes : List Byte) : (loadBytes bytes s).result = s.result := rfl
@[simp] theorem loadBytes_ptr (bytes : List Byte) : (loadBytes bytes s).ptr = s.ptr := rfl
@[simp] theorem loadBytes_recIdx (bytes : List Byte) : (loadBytes bytes s).recIdx = s.recIdx := rfl
@[simp] theorem loadBytes_recDone (bytes : List Byte) : (loadBytes bytes s).recDone = s.recDone := rfl
@[simp] theorem loadBytes_pixSent (bytes : List Byte) : (loadBytes bytes s).pixSent = s.pixSent := rfl
@[simp] theorem loadBytes_err (bytes : List Byte) : (loadBytes bytes s).err = s.err := rfl
@[simp] theorem loadBytes_cfgPixfmt (bytes : List Byte) : (loadBytes bytes s).cfgPixfmt = s.cfgPixfmt := rfl
@[simp] theorem loadBytes_cfgPixfmtValid (bytes : List Byte) : (loadBytes bytes s).cfgPixfmtValid = s.cfgPixfmtValid := rfl
@[simp] theorem loadBytes_cfgMadctl (bytes : List Byte) : (loadBytes bytes s).cfgMadctl = s.cfgMadctl := rfl
@[simp] theorem loadBytes_cfgMadctlValid (bytes : List Byte) : (loadBytes bytes s).cfgMadctlValid = s.cfgMadctlValid := rfl
@[simp] theorem loadBytes_latch (bytes : List Byte) : (loadBytes bytes s).latch = s.latch := rfl
@[simp] theorem loadBytes_txMode (bytes : List Byte) : (loadBytes bytes s).txMode = s.txMode := rfl
@[simp] theorem loadBytes_pending (bytes : List Byte) : (loadBytes bytes s).pending = s.pending := rfl
@[simp] theorem loadBytes_frame (bytes : List Byte) : (loadBytes bytes s).frame = s.frame := rfl
@[simp] theorem loadBytes_chunkPos (bytes : List Byte) : (loadBytes bytes s).chunkPos = s.chunkPos := rfl
@[simp] theorem loadBytes_script (bytes : List Byte) : (loadBytes bytes s).script = s.script.writeBytes 0 bytes := rfl
@[simp] theorem loadBytes_scriptLen (bytes : List Byte) : (loadBytes bytes s).scriptLen = BitVec.ofNat 16 bytes.length := rfl
@[simp] theorem loadBytes_palettes (bytes : List Byte) : (loadBytes bytes s).palettes = s.palettes := rfl
@[simp] theorem loadBytes_bitmaps (bytes : List Byte) : (loadBytes bytes s).bitmaps = s.bitmaps := rfl
@[simp] theorem loadBytes_layers (bytes : List Byte) : (loadBytes bytes s).layers = s.layers := rfl
@[simp] theorem loadBytes_layerCount (bytes : List Byte) : (loadBytes bytes s).layerCount = s.layerCount := rfl
@[simp] theorem loadBytes_stage (bytes : List Byte) : (loadBytes bytes s).stage = s.stage := rfl
@[simp] theorem loadBytes_reply (bytes : List Byte) : (loadBytes bytes s).reply = s.reply := rfl
@[simp] theorem loadBytes_turns (bytes : List Byte) : (loadBytes bytes s).turns = s.turns := rfl
@[simp] theorem loadBytes_trace (bytes : List Byte) : (loadBytes bytes s).trace = s.trace := rfl
@[simp] theorem loadBytes_response (bytes : List Byte) : (loadBytes bytes s).response = s.response := rfl

/-! ### `putPalette` -/

@[simp] theorem putPalette_cfg (p : Nat) (pal : Palette) : (putPalette p pal s).cfg = s.cfg := rfl
@[simp] theorem putPalette_session (p : Nat) (pal : Palette) : (putPalette p pal s).session = s.session := rfl
@[simp] theorem putPalette_busyOp (p : Nat) (pal : Palette) : (putPalette p pal s).busyOp = s.busyOp := rfl
@[simp] theorem putPalette_result (p : Nat) (pal : Palette) : (putPalette p pal s).result = s.result := rfl
@[simp] theorem putPalette_ptr (p : Nat) (pal : Palette) : (putPalette p pal s).ptr = s.ptr := rfl
@[simp] theorem putPalette_recIdx (p : Nat) (pal : Palette) : (putPalette p pal s).recIdx = s.recIdx := rfl
@[simp] theorem putPalette_recDone (p : Nat) (pal : Palette) : (putPalette p pal s).recDone = s.recDone := rfl
@[simp] theorem putPalette_pixSent (p : Nat) (pal : Palette) : (putPalette p pal s).pixSent = s.pixSent := rfl
@[simp] theorem putPalette_err (p : Nat) (pal : Palette) : (putPalette p pal s).err = s.err := rfl
@[simp] theorem putPalette_cfgPixfmt (p : Nat) (pal : Palette) : (putPalette p pal s).cfgPixfmt = s.cfgPixfmt := rfl
@[simp] theorem putPalette_cfgPixfmtValid (p : Nat) (pal : Palette) : (putPalette p pal s).cfgPixfmtValid = s.cfgPixfmtValid := rfl
@[simp] theorem putPalette_cfgMadctl (p : Nat) (pal : Palette) : (putPalette p pal s).cfgMadctl = s.cfgMadctl := rfl
@[simp] theorem putPalette_cfgMadctlValid (p : Nat) (pal : Palette) : (putPalette p pal s).cfgMadctlValid = s.cfgMadctlValid := rfl
@[simp] theorem putPalette_latch (p : Nat) (pal : Palette) : (putPalette p pal s).latch = s.latch := rfl
@[simp] theorem putPalette_txMode (p : Nat) (pal : Palette) : (putPalette p pal s).txMode = s.txMode := rfl
@[simp] theorem putPalette_pending (p : Nat) (pal : Palette) : (putPalette p pal s).pending = s.pending := rfl
@[simp] theorem putPalette_frame (p : Nat) (pal : Palette) : (putPalette p pal s).frame = s.frame := rfl
@[simp] theorem putPalette_chunkPos (p : Nat) (pal : Palette) : (putPalette p pal s).chunkPos = s.chunkPos := rfl
@[simp] theorem putPalette_script (p : Nat) (pal : Palette) : (putPalette p pal s).script = s.script := rfl
@[simp] theorem putPalette_scriptLen (p : Nat) (pal : Palette) : (putPalette p pal s).scriptLen = s.scriptLen := rfl
@[simp] theorem putPalette_palettes (p : Nat) (pal : Palette) : (putPalette p pal s).palettes = s.palettes.set p pal := rfl
@[simp] theorem putPalette_bitmaps (p : Nat) (pal : Palette) : (putPalette p pal s).bitmaps = s.bitmaps := rfl
@[simp] theorem putPalette_layers (p : Nat) (pal : Palette) : (putPalette p pal s).layers = s.layers := rfl
@[simp] theorem putPalette_layerCount (p : Nat) (pal : Palette) : (putPalette p pal s).layerCount = s.layerCount := rfl
@[simp] theorem putPalette_stage (p : Nat) (pal : Palette) : (putPalette p pal s).stage = s.stage := rfl
@[simp] theorem putPalette_reply (p : Nat) (pal : Palette) : (putPalette p pal s).reply = s.reply := rfl
@[simp] theorem putPalette_turns (p : Nat) (pal : Palette) : (putPalette p pal s).turns = s.turns := rfl
@[simp] theorem putPalette_trace (p : Nat) (pal : Palette) : (putPalette p pal s).trace = s.trace := rfl
@[simp] theorem putPalette_response (p : Nat) (pal : Palette) : (putPalette p pal s).response = s.response := rfl

/-! ### `putBitmap` -/

@[simp] theorem putBitmap_cfg (b : Nat) (bmp : Bitmap) : (putBitmap b bmp s).cfg = s.cfg := rfl
@[simp] theorem putBitmap_session (b : Nat) (bmp : Bitmap) : (putBitmap b bmp s).session = s.session := rfl
@[simp] theorem putBitmap_busyOp (b : Nat) (bmp : Bitmap) : (putBitmap b bmp s).busyOp = s.busyOp := rfl
@[simp] theorem putBitmap_result (b : Nat) (bmp : Bitmap) : (putBitmap b bmp s).result = s.result := rfl
@[simp] theorem putBitmap_ptr (b : Nat) (bmp : Bitmap) : (putBitmap b bmp s).ptr = s.ptr := rfl
@[simp] theorem putBitmap_recIdx (b : Nat) (bmp : Bitmap) : (putBitmap b bmp s).recIdx = s.recIdx := rfl
@[simp] theorem putBitmap_recDone (b : Nat) (bmp : Bitmap) : (putBitmap b bmp s).recDone = s.recDone := rfl
@[simp] theorem putBitmap_pixSent (b : Nat) (bmp : Bitmap) : (putBitmap b bmp s).pixSent = s.pixSent := rfl
@[simp] theorem putBitmap_err (b : Nat) (bmp : Bitmap) : (putBitmap b bmp s).err = s.err := rfl
@[simp] theorem putBitmap_cfgPixfmt (b : Nat) (bmp : Bitmap) : (putBitmap b bmp s).cfgPixfmt = s.cfgPixfmt := rfl
@[simp] theorem putBitmap_cfgPixfmtValid (b : Nat) (bmp : Bitmap) : (putBitmap b bmp s).cfgPixfmtValid = s.cfgPixfmtValid := rfl
@[simp] theorem putBitmap_cfgMadctl (b : Nat) (bmp : Bitmap) : (putBitmap b bmp s).cfgMadctl = s.cfgMadctl := rfl
@[simp] theorem putBitmap_cfgMadctlValid (b : Nat) (bmp : Bitmap) : (putBitmap b bmp s).cfgMadctlValid = s.cfgMadctlValid := rfl
@[simp] theorem putBitmap_latch (b : Nat) (bmp : Bitmap) : (putBitmap b bmp s).latch = s.latch := rfl
@[simp] theorem putBitmap_txMode (b : Nat) (bmp : Bitmap) : (putBitmap b bmp s).txMode = s.txMode := rfl
@[simp] theorem putBitmap_pending (b : Nat) (bmp : Bitmap) : (putBitmap b bmp s).pending = s.pending := rfl
@[simp] theorem putBitmap_frame (b : Nat) (bmp : Bitmap) : (putBitmap b bmp s).frame = s.frame := rfl
@[simp] theorem putBitmap_chunkPos (b : Nat) (bmp : Bitmap) : (putBitmap b bmp s).chunkPos = s.chunkPos := rfl
@[simp] theorem putBitmap_script (b : Nat) (bmp : Bitmap) : (putBitmap b bmp s).script = s.script := rfl
@[simp] theorem putBitmap_scriptLen (b : Nat) (bmp : Bitmap) : (putBitmap b bmp s).scriptLen = s.scriptLen := rfl
@[simp] theorem putBitmap_palettes (b : Nat) (bmp : Bitmap) : (putBitmap b bmp s).palettes = s.palettes := rfl
@[simp] theorem putBitmap_bitmaps (b : Nat) (bmp : Bitmap) : (putBitmap b bmp s).bitmaps = s.bitmaps.set b bmp := rfl
@[simp] theorem putBitmap_layers (b : Nat) (bmp : Bitmap) : (putBitmap b bmp s).layers = s.layers := rfl
@[simp] theorem putBitmap_layerCount (b : Nat) (bmp : Bitmap) : (putBitmap b bmp s).layerCount = s.layerCount := rfl
@[simp] theorem putBitmap_stage (b : Nat) (bmp : Bitmap) : (putBitmap b bmp s).stage = s.stage := rfl
@[simp] theorem putBitmap_reply (b : Nat) (bmp : Bitmap) : (putBitmap b bmp s).reply = s.reply := rfl
@[simp] theorem putBitmap_turns (b : Nat) (bmp : Bitmap) : (putBitmap b bmp s).turns = s.turns := rfl
@[simp] theorem putBitmap_trace (b : Nat) (bmp : Bitmap) : (putBitmap b bmp s).trace = s.trace := rfl
@[simp] theorem putBitmap_response (b : Nat) (bmp : Bitmap) : (putBitmap b bmp s).response = s.response := rfl

/-! ### `putLayer` -/

@[simp] theorem putLayer_cfg (k : Nat) (l : Placement) : (putLayer k l s).cfg = s.cfg := rfl
@[simp] theorem putLayer_session (k : Nat) (l : Placement) : (putLayer k l s).session = s.session := rfl
@[simp] theorem putLayer_busyOp (k : Nat) (l : Placement) : (putLayer k l s).busyOp = s.busyOp := rfl
@[simp] theorem putLayer_result (k : Nat) (l : Placement) : (putLayer k l s).result = s.result := rfl
@[simp] theorem putLayer_ptr (k : Nat) (l : Placement) : (putLayer k l s).ptr = s.ptr := rfl
@[simp] theorem putLayer_recIdx (k : Nat) (l : Placement) : (putLayer k l s).recIdx = s.recIdx := rfl
@[simp] theorem putLayer_recDone (k : Nat) (l : Placement) : (putLayer k l s).recDone = s.recDone := rfl
@[simp] theorem putLayer_pixSent (k : Nat) (l : Placement) : (putLayer k l s).pixSent = s.pixSent := rfl
@[simp] theorem putLayer_err (k : Nat) (l : Placement) : (putLayer k l s).err = s.err := rfl
@[simp] theorem putLayer_cfgPixfmt (k : Nat) (l : Placement) : (putLayer k l s).cfgPixfmt = s.cfgPixfmt := rfl
@[simp] theorem putLayer_cfgPixfmtValid (k : Nat) (l : Placement) : (putLayer k l s).cfgPixfmtValid = s.cfgPixfmtValid := rfl
@[simp] theorem putLayer_cfgMadctl (k : Nat) (l : Placement) : (putLayer k l s).cfgMadctl = s.cfgMadctl := rfl
@[simp] theorem putLayer_cfgMadctlValid (k : Nat) (l : Placement) : (putLayer k l s).cfgMadctlValid = s.cfgMadctlValid := rfl
@[simp] theorem putLayer_latch (k : Nat) (l : Placement) : (putLayer k l s).latch = s.latch := rfl
@[simp] theorem putLayer_txMode (k : Nat) (l : Placement) : (putLayer k l s).txMode = s.txMode := rfl
@[simp] theorem putLayer_pending (k : Nat) (l : Placement) : (putLayer k l s).pending = s.pending := rfl
@[simp] theorem putLayer_frame (k : Nat) (l : Placement) : (putLayer k l s).frame = s.frame := rfl
@[simp] theorem putLayer_chunkPos (k : Nat) (l : Placement) : (putLayer k l s).chunkPos = s.chunkPos := rfl
@[simp] theorem putLayer_script (k : Nat) (l : Placement) : (putLayer k l s).script = s.script := rfl
@[simp] theorem putLayer_scriptLen (k : Nat) (l : Placement) : (putLayer k l s).scriptLen = s.scriptLen := rfl
@[simp] theorem putLayer_palettes (k : Nat) (l : Placement) : (putLayer k l s).palettes = s.palettes := rfl
@[simp] theorem putLayer_bitmaps (k : Nat) (l : Placement) : (putLayer k l s).bitmaps = s.bitmaps := rfl
@[simp] theorem putLayer_layers (k : Nat) (l : Placement) : (putLayer k l s).layers = s.layers.set k l := rfl
@[simp] theorem putLayer_layerCount (k : Nat) (l : Placement) : (putLayer k l s).layerCount = s.layerCount := rfl
@[simp] theorem putLayer_stage (k : Nat) (l : Placement) : (putLayer k l s).stage = s.stage := rfl
@[simp] theorem putLayer_reply (k : Nat) (l : Placement) : (putLayer k l s).reply = s.reply := rfl
@[simp] theorem putLayer_turns (k : Nat) (l : Placement) : (putLayer k l s).turns = s.turns := rfl
@[simp] theorem putLayer_trace (k : Nat) (l : Placement) : (putLayer k l s).trace = s.trace := rfl
@[simp] theorem putLayer_response (k : Nat) (l : Placement) : (putLayer k l s).response = s.response := rfl

/-! ### `putLayerCount` -/

@[simp] theorem putLayerCount_cfg (n : Nat) : (putLayerCount n s).cfg = s.cfg := rfl
@[simp] theorem putLayerCount_session (n : Nat) : (putLayerCount n s).session = s.session := rfl
@[simp] theorem putLayerCount_busyOp (n : Nat) : (putLayerCount n s).busyOp = s.busyOp := rfl
@[simp] theorem putLayerCount_result (n : Nat) : (putLayerCount n s).result = s.result := rfl
@[simp] theorem putLayerCount_ptr (n : Nat) : (putLayerCount n s).ptr = s.ptr := rfl
@[simp] theorem putLayerCount_recIdx (n : Nat) : (putLayerCount n s).recIdx = s.recIdx := rfl
@[simp] theorem putLayerCount_recDone (n : Nat) : (putLayerCount n s).recDone = s.recDone := rfl
@[simp] theorem putLayerCount_pixSent (n : Nat) : (putLayerCount n s).pixSent = s.pixSent := rfl
@[simp] theorem putLayerCount_err (n : Nat) : (putLayerCount n s).err = s.err := rfl
@[simp] theorem putLayerCount_cfgPixfmt (n : Nat) : (putLayerCount n s).cfgPixfmt = s.cfgPixfmt := rfl
@[simp] theorem putLayerCount_cfgPixfmtValid (n : Nat) : (putLayerCount n s).cfgPixfmtValid = s.cfgPixfmtValid := rfl
@[simp] theorem putLayerCount_cfgMadctl (n : Nat) : (putLayerCount n s).cfgMadctl = s.cfgMadctl := rfl
@[simp] theorem putLayerCount_cfgMadctlValid (n : Nat) : (putLayerCount n s).cfgMadctlValid = s.cfgMadctlValid := rfl
@[simp] theorem putLayerCount_latch (n : Nat) : (putLayerCount n s).latch = s.latch := rfl
@[simp] theorem putLayerCount_txMode (n : Nat) : (putLayerCount n s).txMode = s.txMode := rfl
@[simp] theorem putLayerCount_pending (n : Nat) : (putLayerCount n s).pending = s.pending := rfl
@[simp] theorem putLayerCount_frame (n : Nat) : (putLayerCount n s).frame = s.frame := rfl
@[simp] theorem putLayerCount_chunkPos (n : Nat) : (putLayerCount n s).chunkPos = s.chunkPos := rfl
@[simp] theorem putLayerCount_script (n : Nat) : (putLayerCount n s).script = s.script := rfl
@[simp] theorem putLayerCount_scriptLen (n : Nat) : (putLayerCount n s).scriptLen = s.scriptLen := rfl
@[simp] theorem putLayerCount_palettes (n : Nat) : (putLayerCount n s).palettes = s.palettes := rfl
@[simp] theorem putLayerCount_bitmaps (n : Nat) : (putLayerCount n s).bitmaps = s.bitmaps := rfl
@[simp] theorem putLayerCount_layers (n : Nat) : (putLayerCount n s).layers = s.layers := rfl
@[simp] theorem putLayerCount_layerCount (n : Nat) : (putLayerCount n s).layerCount = BitVec.ofNat 8 n := rfl
@[simp] theorem putLayerCount_stage (n : Nat) : (putLayerCount n s).stage = s.stage := rfl
@[simp] theorem putLayerCount_reply (n : Nat) : (putLayerCount n s).reply = s.reply := rfl
@[simp] theorem putLayerCount_turns (n : Nat) : (putLayerCount n s).turns = s.turns := rfl
@[simp] theorem putLayerCount_trace (n : Nat) : (putLayerCount n s).trace = s.trace := rfl
@[simp] theorem putLayerCount_response (n : Nat) : (putLayerCount n s).response = s.response := rfl

/-! ### `storeFrame` -/

@[simp] theorem storeFrame_cfg : (storeFrame s).cfg = s.cfg := rfl
@[simp] theorem storeFrame_session : (storeFrame s).session = s.session := rfl
@[simp] theorem storeFrame_busyOp : (storeFrame s).busyOp = s.busyOp := rfl
@[simp] theorem storeFrame_result : (storeFrame s).result = s.result := rfl
@[simp] theorem storeFrame_ptr : (storeFrame s).ptr = s.ptr := rfl
@[simp] theorem storeFrame_recIdx : (storeFrame s).recIdx = s.recIdx := rfl
@[simp] theorem storeFrame_recDone : (storeFrame s).recDone = s.recDone := rfl
@[simp] theorem storeFrame_pixSent : (storeFrame s).pixSent = s.pixSent := rfl
@[simp] theorem storeFrame_err : (storeFrame s).err = s.err := rfl
@[simp] theorem storeFrame_cfgPixfmt : (storeFrame s).cfgPixfmt = s.cfgPixfmt := rfl
@[simp] theorem storeFrame_cfgPixfmtValid : (storeFrame s).cfgPixfmtValid = s.cfgPixfmtValid := rfl
@[simp] theorem storeFrame_cfgMadctl : (storeFrame s).cfgMadctl = s.cfgMadctl := rfl
@[simp] theorem storeFrame_cfgMadctlValid : (storeFrame s).cfgMadctlValid = s.cfgMadctlValid := rfl
@[simp] theorem storeFrame_latch : (storeFrame s).latch = s.latch := rfl
@[simp] theorem storeFrame_txMode : (storeFrame s).txMode = s.txMode := rfl
@[simp] theorem storeFrame_pending : (storeFrame s).pending = s.pending := rfl
@[simp] theorem storeFrame_frame : (storeFrame s).frame = resolveFrame s := rfl
@[simp] theorem storeFrame_chunkPos : (storeFrame s).chunkPos = 0 := rfl
@[simp] theorem storeFrame_script : (storeFrame s).script = s.script := rfl
@[simp] theorem storeFrame_scriptLen : (storeFrame s).scriptLen = s.scriptLen := rfl
@[simp] theorem storeFrame_palettes : (storeFrame s).palettes = s.palettes := rfl
@[simp] theorem storeFrame_bitmaps : (storeFrame s).bitmaps = s.bitmaps := rfl
@[simp] theorem storeFrame_layers : (storeFrame s).layers = s.layers := rfl
@[simp] theorem storeFrame_layerCount : (storeFrame s).layerCount = s.layerCount := rfl
@[simp] theorem storeFrame_stage : (storeFrame s).stage = .stream := rfl
@[simp] theorem storeFrame_reply : (storeFrame s).reply = s.reply := rfl
@[simp] theorem storeFrame_turns : (storeFrame s).turns = s.turns := rfl
@[simp] theorem storeFrame_trace : (storeFrame s).trace = s.trace := rfl
@[simp] theorem storeFrame_response : (storeFrame s).response = s.response := rfl

/-! ### `chunkSent` -/

@[simp] theorem chunkSent_cfg (e : Nat) : (chunkSent e s).cfg = s.cfg := rfl
@[simp] theorem chunkSent_session (e : Nat) : (chunkSent e s).session = s.session := rfl
@[simp] theorem chunkSent_busyOp (e : Nat) : (chunkSent e s).busyOp = s.busyOp := rfl
@[simp] theorem chunkSent_result (e : Nat) : (chunkSent e s).result = s.result := rfl
@[simp] theorem chunkSent_ptr (e : Nat) : (chunkSent e s).ptr = s.ptr := rfl
@[simp] theorem chunkSent_recIdx (e : Nat) : (chunkSent e s).recIdx = s.recIdx := rfl
@[simp] theorem chunkSent_recDone (e : Nat) : (chunkSent e s).recDone = s.recDone := rfl
@[simp] theorem chunkSent_pixSent (e : Nat) : (chunkSent e s).pixSent = BitVec.ofNat 32 e := rfl
@[simp] theorem chunkSent_err (e : Nat) : (chunkSent e s).err = s.err := rfl
@[simp] theorem chunkSent_cfgPixfmt (e : Nat) : (chunkSent e s).cfgPixfmt = s.cfgPixfmt := rfl
@[simp] theorem chunkSent_cfgPixfmtValid (e : Nat) : (chunkSent e s).cfgPixfmtValid = s.cfgPixfmtValid := rfl
@[simp] theorem chunkSent_cfgMadctl (e : Nat) : (chunkSent e s).cfgMadctl = s.cfgMadctl := rfl
@[simp] theorem chunkSent_cfgMadctlValid (e : Nat) : (chunkSent e s).cfgMadctlValid = s.cfgMadctlValid := rfl
@[simp] theorem chunkSent_latch (e : Nat) : (chunkSent e s).latch = s.latch := rfl
@[simp] theorem chunkSent_txMode (e : Nat) : (chunkSent e s).txMode = s.txMode := rfl
@[simp] theorem chunkSent_pending (e : Nat) : (chunkSent e s).pending = s.pending := rfl
@[simp] theorem chunkSent_frame (e : Nat) : (chunkSent e s).frame = s.frame := rfl
@[simp] theorem chunkSent_chunkPos (e : Nat) : (chunkSent e s).chunkPos = e := rfl
@[simp] theorem chunkSent_script (e : Nat) : (chunkSent e s).script = s.script := rfl
@[simp] theorem chunkSent_scriptLen (e : Nat) : (chunkSent e s).scriptLen = s.scriptLen := rfl
@[simp] theorem chunkSent_palettes (e : Nat) : (chunkSent e s).palettes = s.palettes := rfl
@[simp] theorem chunkSent_bitmaps (e : Nat) : (chunkSent e s).bitmaps = s.bitmaps := rfl
@[simp] theorem chunkSent_layers (e : Nat) : (chunkSent e s).layers = s.layers := rfl
@[simp] theorem chunkSent_layerCount (e : Nat) : (chunkSent e s).layerCount = s.layerCount := rfl
@[simp] theorem chunkSent_stage (e : Nat) : (chunkSent e s).stage = s.stage := rfl
@[simp] theorem chunkSent_reply (e : Nat) : (chunkSent e s).reply = s.reply := rfl
@[simp] theorem chunkSent_turns (e : Nat) : (chunkSent e s).turns = s.turns := rfl
@[simp] theorem chunkSent_trace (e : Nat) : (chunkSent e s).trace = s.trace := rfl
@[simp] theorem chunkSent_response (e : Nat) : (chunkSent e s).response = s.response := rfl

/-! ### `latchRecord` -/

@[simp] theorem latchRecord_cfg (bytes : List Byte) : (latchRecord bytes s).cfg = s.cfg := rfl
@[simp] theorem latchRecord_session (bytes : List Byte) : (latchRecord bytes s).session = s.session := rfl
@[simp] theorem latchRecord_busyOp (bytes : List Byte) : (latchRecord bytes s).busyOp = s.busyOp := rfl
@[simp] theorem latchRecord_result (bytes : List Byte) : (latchRecord bytes s).result = s.result := rfl
@[simp] theorem latchRecord_ptr (bytes : List Byte) : (latchRecord bytes s).ptr = s.ptr := rfl
@[simp] theorem latchRecord_recIdx (bytes : List Byte) : (latchRecord bytes s).recIdx = s.recIdx := rfl
@[simp] theorem latchRecord_recDone (bytes : List Byte) : (latchRecord bytes s).recDone = s.recDone := rfl
@[simp] theorem latchRecord_pixSent (bytes : List Byte) : (latchRecord bytes s).pixSent = s.pixSent := rfl
@[simp] theorem latchRecord_err (bytes : List Byte) : (latchRecord bytes s).err = s.err := rfl
@[simp] theorem latchRecord_cfgPixfmt (bytes : List Byte) : (latchRecord bytes s).cfgPixfmt = s.cfgPixfmt := rfl
@[simp] theorem latchRecord_cfgPixfmtValid (bytes : List Byte) : (latchRecord bytes s).cfgPixfmtValid = s.cfgPixfmtValid := rfl
@[simp] theorem latchRecord_cfgMadctl (bytes : List Byte) : (latchRecord bytes s).cfgMadctl = s.cfgMadctl := rfl
@[simp] theorem latchRecord_cfgMadctlValid (bytes : List Byte) : (latchRecord bytes s).cfgMadctlValid = s.cfgMadctlValid := rfl
@[simp] theorem latchRecord_latch (bytes : List Byte) : (latchRecord bytes s).latch = latchBytes bytes s.latch := rfl
@[simp] theorem latchRecord_txMode (bytes : List Byte) : (latchRecord bytes s).txMode = s.txMode := rfl
@[simp] theorem latchRecord_pending (bytes : List Byte) : (latchRecord bytes s).pending = s.pending := rfl
@[simp] theorem latchRecord_frame (bytes : List Byte) : (latchRecord bytes s).frame = s.frame := rfl
@[simp] theorem latchRecord_chunkPos (bytes : List Byte) : (latchRecord bytes s).chunkPos = s.chunkPos := rfl
@[simp] theorem latchRecord_script (bytes : List Byte) : (latchRecord bytes s).script = s.script := rfl
@[simp] theorem latchRecord_scriptLen (bytes : List Byte) : (latchRecord bytes s).scriptLen = s.scriptLen := rfl
@[simp] theorem latchRecord_palettes (bytes : List Byte) : (latchRecord bytes s).palettes = s.palettes := rfl
@[simp] theorem latchRecord_bitmaps (bytes : List Byte) : (latchRecord bytes s).bitmaps = s.bitmaps := rfl
@[simp] theorem latchRecord_layers (bytes : List Byte) : (latchRecord bytes s).layers = s.layers := rfl
@[simp] theorem latchRecord_layerCount (bytes : List Byte) : (latchRecord bytes s).layerCount = s.layerCount := rfl
@[simp] theorem latchRecord_stage (bytes : List Byte) : (latchRecord bytes s).stage = .cmd := rfl
@[simp] theorem latchRecord_reply (bytes : List Byte) : (latchRecord bytes s).reply = s.reply := rfl
@[simp] theorem latchRecord_turns (bytes : List Byte) : (latchRecord bytes s).turns = s.turns := rfl
@[simp] theorem latchRecord_trace (bytes : List Byte) : (latchRecord bytes s).trace = s.trace := rfl
@[simp] theorem latchRecord_response (bytes : List Byte) : (latchRecord bytes s).response = s.response := rfl

end Sys2Proof.Machine
end

