-- ==== Sys2Proof/Laws/Ops.lean ====
section
/-! SUPPORT. What each shared operation can do, said once: later proofs cite these and do not unfold the
operations. -/

namespace Sys2Proof.Machine

open Host (Outcome)

/-! ### Host operations -/

theorem whenIdle_busy {s : State} (h : s.busyOp ≠ .idle) (op : State → State) :
    whenIdle s op = respond .busy s := by
  simp [whenIdle, State.busy, h]

theorem whenIdle_idle {s : State} (h : s.busyOp = .idle) (op : State → State) : whenIdle s op = op s := by
  simp [whenIdle, State.busy, h]

/-- A guarded operation is answered `BUSY`, or the block is idle and it runs. -/
theorem whenIdle_cases (s : State) (op : State → State) :
    s.busyOp ≠ .idle ∧ whenIdle s op = respond .busy s ∨ s.busyOp = .idle ∧ whenIdle s op = op s := by
  by_cases h : s.busyOp = .idle
  · exact .inr ⟨h, whenIdle_idle h op⟩
  · exact .inl ⟨h, whenIdle_busy h op⟩

/-- A checked operation is answered `ARG_RANGE`, or its arguments are in range and it has its effect. -/
theorem whenInRange_cases (ok : Bool) (s : State) (effect : State → State) :
    ok = false ∧ whenInRange ok s effect = respond .argRange s
    ∨ ok = true ∧ whenInRange ok s effect = respond .accepted (effect s) := by
  cases ok
  · exact .inl ⟨rfl, rfl⟩
  · exact .inr ⟨rfl, rfl⟩

/-- An entry's write changes the palettes alone. -/
theorem putEntry_frame (p i : Nat) (rgb : Rgb) (s : State) :
    putEntry p i rgb s = { s with palettes := (putEntry p i rgb s).palettes } := by
  unfold putEntry
  split <;> rfl

/-- A cell's write changes the bitmaps alone. -/
theorem putCell_frame (b x y v : Nat) (s : State) :
    putCell b x y v s = { s with bitmaps := (putCell b x y v s).bitmaps } := by
  unfold putCell
  split <;> rfl

/-- Two cells of a bitmap stand at different places of its list. -/
theorem cellPlace_inj {w x y x' y' : Nat} (hx : x < w) (hx' : x' < w) (h : y * w + x = y' * w + x') :
    x = x' ∧ y = y' := by
  have h1 : (y * w + x) % w = x := by rw [Nat.add_comm, Nat.add_mul_mod_self_right, Nat.mod_eq_of_lt hx]
  have h2 : (y' * w + x') % w = x' := by rw [Nat.add_comm, Nat.add_mul_mod_self_right, Nat.mod_eq_of_lt hx']
  have hxx : x = x' := by rw [← h1, ← h2, h]
  subst hxx
  exact ⟨rfl, Nat.eq_of_mul_eq_mul_right (by omega) (show y * w = y' * w by omega)⟩

theorem cellPlace_lt {w h x y : Nat} (hx : x < w) (hy : y < h) : y * w + x < w * h :=
  calc y * w + x < (y + 1) * w := by rw [Nat.add_mul]; omega
    _ ≤ h * w := Nat.mul_le_mul_right _ hy
    _ = w * h := Nat.mul_comm ..

/-! ### The transport -/

theorem transact_issues {s : State} (h : s.pending = none) (r : TxReq) (failure : ErrRegs) (onOk : State → State) :
    transact r failure onOk s = issue r s := by
  simp [transact, h]

theorem transact_waits {s : State} (h : s.pending ≠ none) (h' : s.reply = none) (r : TxReq) (failure : ErrRegs)
    (onOk : State → State) : transact r failure onOk s = s := by
  obtain ⟨q, hq⟩ := Option.ne_none_iff_exists'.1 h
  simp [transact, hq, h']

theorem transact_ok {s : State} (h : s.pending ≠ none) (h' : s.reply = some .ok) (r : TxReq) (failure : ErrRegs)
    (onOk : State → State) : transact r failure onOk s = onOk (acknowledge .ok s) := by
  obtain ⟨q, hq⟩ := Option.ne_none_iff_exists'.1 h
  simp [transact, hq, h']

theorem transact_fail {s : State} (h : s.pending ≠ none) (h' : s.reply = some .fail) (r : TxReq)
    (failure : ErrRegs) (onOk : State → State) :
    transact r failure onOk s = raise failure (acknowledge .fail s) := by
  obtain ⟨q, hq⟩ := Option.ne_none_iff_exists'.1 h
  simp [transact, hq, h']

/-- The four things a request's step can do. -/
theorem transact_cases (r : TxReq) (failure : ErrRegs) (onOk : State → State) (s : State) :
    s.pending = none ∧ transact r failure onOk s = issue r s
    ∨ s.pending ≠ none ∧ s.reply = none ∧ transact r failure onOk s = s
    ∨ s.pending ≠ none ∧ s.reply = some .ok ∧ transact r failure onOk s = onOk (acknowledge .ok s)
    ∨ s.pending ≠ none ∧ s.reply = some .fail ∧ transact r failure onOk s = raise failure (acknowledge .fail s) := by
  by_cases h : s.pending = none
  · exact .inl ⟨h, transact_issues h ..⟩
  · match h' : s.reply with
    | none => exact .inr (.inl ⟨h, rfl, transact_waits h h' ..⟩)
    | some .ok => exact .inr (.inr (.inl ⟨h, rfl, transact_ok h h' ..⟩))
    | some .fail => exact .inr (.inr (.inr ⟨h, rfl, transact_fail h h' ..⟩))

/-- Sending a request gives it the next number; an answer gives none. -/
@[simp] theorem issue_sentCount (r : TxReq) (s : State) : (issue r s).sentCount = s.sentCount + 1 := by
  simp [State.sentCount, TraceEvent.isSent]

@[simp] theorem acknowledge_sentCount (a : Answer) (s : State) : (acknowledge a s).sentCount = s.sentCount := by
  simp [State.sentCount, TraceEvent.isSent]

/-! ### Capture -/

/-- Everything a capture can do: the two bytes and their valid bits, by the record's opcode. -/
theorem capture_eq (opcode b : Byte) (bs : List Byte) (s : State) :
    capture opcode (b :: bs) s = { s with
      cfgPixfmt := if opcode = s.cfg.opcPixfmt then b else s.cfgPixfmt
      cfgPixfmtValid := decide (opcode = s.cfg.opcPixfmt) || s.cfgPixfmtValid
      cfgMadctl := if opcode = s.cfg.opcMadctl then b else s.cfgMadctl
      cfgMadctlValid := decide (opcode = s.cfg.opcMadctl) || s.cfgMadctlValid } := by
  unfold capture captureMadctl capturePixfmt
  by_cases h1 : opcode = s.cfg.opcPixfmt <;> by_cases h2 : opcode = s.cfg.opcMadctl <;> simp [h1, h2] <;>
    simp_all

/-! ### Records -/

/-- What a block step of a record does, by its stage; at any other stage it stops. -/
theorem runRecord_cmd {s : State} (h : s.stage = .cmd) (r : Record) :
    runRecord r s = .next (transact (.cmd r.opcode) (recordError .cmdWrite s) (goTo (stageAfterCmd r)) s) := by
  simp [runRecord, h]

theorem runRecord_data {s : State} (h : s.stage = .data) {r : Record} (hd : r.data ≠ []) :
    runRecord r s = .next (transact (.data r.data) (recordError .dataWrite s)
      (fun t => goTo (stageAfterData r) (capture r.opcode r.data t)) s) := by
  obtain ⟨opcode, data, delay⟩ := r
  cases data with
  | nil => exact absurd rfl hd
  | cons b bs => simp [runRecord, h]

theorem runRecord_delay {s : State} (h : s.stage = .delay) {r : Record} {ms : Byte} (hd : r.delay = some ms) :
    runRecord r s = .next (transact (.delay ms) (recordError .delayWait s) (goTo .done) s) := by
  simp [runRecord, h, hd]

theorem runRecord_done {s : State} (h : s.stage = .done) (r : Record) :
    runRecord r s = .next (completeRecord r.length s) := by
  simp [runRecord, h]

/-- The meaning of a record instruction is the block step of its record. -/
theorem exec_recordOf {s : State} {i : Instr} {r : Record} (h : recordOf s.cfg i = some r) :
    exec i s = runRecord r s := by
  cases i <;> simp only [recordOf, Option.some.injEq, reduceCtorEq] at h <;> subst h <;> rfl

theorem exec_classify (s : State) (c : Config) (r : Record) (h : c = s.cfg) :
    exec (classify c r) s = runRecord r s := by
  subst h
  exact exec_recordOf (recordOf_classify s.cfg r)

/-- The ways a block step of a record answers next. -/
theorem runRecord_cases {r : Record} {s t : State} (h : runRecord r s = .next t) :
    s.stage = .cmd ∧ t = transact (.cmd r.opcode) (recordError .cmdWrite s) (goTo (stageAfterCmd r)) s
    ∨ (s.stage = .data ∧ r.data ≠ [] ∧ t = transact (.data r.data) (recordError .dataWrite s)
        (fun t => goTo (stageAfterData r) (capture r.opcode r.data t)) s)
    ∨ (∃ ms, s.stage = .delay ∧ r.delay = some ms
        ∧ t = transact (.delay ms) (recordError .delayWait s) (goTo .done) s)
    ∨ s.stage = .done ∧ t = completeRecord r.length s := by
  match hs : s.stage with
  | .cmd =>
    rw [runRecord_cmd hs] at h
    exact .inl ⟨rfl, (Outcome.next.inj h).symm⟩
  | .data =>
    by_cases hd : r.data = []
    · simp [runRecord, hs, hd] at h
    · rw [runRecord_data hs hd] at h
      exact .inr (.inl ⟨rfl, hd, (Outcome.next.inj h).symm⟩)
  | .delay =>
    match hd : r.delay with
    | none => simp [runRecord, hs, hd] at h
    | some ms =>
      rw [runRecord_delay hs hd] at h
      exact .inr (.inr (.inl ⟨ms, rfl, rfl, (Outcome.next.inj h).symm⟩))
  | .done =>
    rw [runRecord_done hs] at h
    exact .inr (.inr (.inr ⟨rfl, (Outcome.next.inj h).symm⟩))
  | .fetch => simp [runRecord, hs] at h
  | .validate => simp [runRecord, hs] at h
  | .resolve => simp [runRecord, hs] at h
  | .stream => simp [runRecord, hs] at h

/-! ### Fetching -/

/-- The latch after a whole record has been decoded. -/
theorem latchBytes_encodeRecord {r : Record} (h : r.wf = true) (l : Latch) :
    latchBytes (encodeRecord r) l =
      ⟨r.opcode, BitVec.ofNat 7 r.data.length, r.delay.isSome, r.data, r.delay.getD l.dms⟩ := by
  have h : r.data.length ≤ 127 := by simpa [Record.wf] using h
  obtain ⟨opcode, data, delay⟩ := r
  have hn : (descByte delay.isSome data.length).extractLsb' 0 7 = BitVec.ofNat 7 data.length := by
    have := descLen_descByte delay.isSome h
    apply BitVec.eq_of_toNat_eq
    rw [← descLen, this, BitVec.toNat_ofNat, Nat.mod_eq_of_lt (by simp only at h; omega)]
  cases delay <;>
    simp_all [encodeRecord, latchBytes, descLen_descByte, descDelay_descByte]

/-- The record of a latch that holds a record. -/
theorem latch_record (r : Record) (n : BitVec 7) (ms : Byte) :
    Latch.record ⟨r.opcode, n, r.delay.isSome, r.data, r.delay.getD ms⟩ = r := by
  obtain ⟨opcode, data, delay⟩ := r
  cases delay <;> rfl

/-- The fetch of a record that stands whole at `PTR` reads its bytes. -/
theorem fetchBytes_record {s : State} {r : Record} (hw : r.wf = true)
    (hfit : s.ptr.toNat + r.length ≤ s.scriptLen.toNat)
    (hread : s.script.readBytes s.ptr.toNat r.length = some (encodeRecord r)) :
    fetchBytes s = some (encodeRecord r) := by
  have h2 : 2 ≤ r.length := by simp [Record.length]; omega
  have hmin : min 2 (s.scriptLen.toNat - s.ptr.toNat) = 2 := by omega
  have hhead := Memory.readBytes_part hread (i := 0) (k := 2) (by omega)
  simp only [Nat.add_zero, List.drop_zero] at hhead
  have hspan : recordSpan ((encodeRecord r).take 2) = r.length := by
    have := recordSpan_encodeRecord hw []
    simpa [encodeRecord, recordSpan] using this
  have hmin' : min r.length (s.scriptLen.toNat - s.ptr.toNat) = r.length := by omega
  simp only [fetchBytes, hmin, hhead, hspan, hmin', hread]

end Sys2Proof.Machine
end

