-- ==== Sys2Proof/Laws/Step.lean ====
section
/-! SUPPORT. What a step is, by the next turn, the run in progress and its stage: later proofs cite these
and do not unfold the step. -/

namespace Sys2Proof.Machine

open Host (Outcome)

/-! ### The turns -/

theorem step_noTurn {s : State} (h : s.turns = []) : step s = blockStep s := by simp [step, nextStep, h]

theorem step_block {s : State} {ts : List Turn} (h : s.turns = .block :: ts) :
    step s = blockStep { s with turns := ts } := by simp only [step, nextStep, h]

theorem step_host {s : State} {q : HostReq} {ts : List Turn} (h : s.turns = .host q :: ts) :
    step s = hostStep q { s with turns := ts } := by simp only [step, nextStep, h]

theorem step_reset {s : State} {ts : List Turn} (h : s.turns = .reset :: ts) :
    step s = .next (resetStep { s with turns := ts }) := by simp only [step, nextStep, h]

theorem step_answer {s : State} {a : Answer} {ts : List Turn} (h : s.turns = .answer s.sentCount a :: ts)
    (hp : s.pending ≠ none) : step s = blockStep { s with turns := ts, reply := some a } := by
  obtain ⟨q, hq⟩ := Option.ne_none_iff_exists'.1 hp
  simp only [step, nextStep, h, answerStep, hq, State.sentCount, if_true]

/-- An answer to no request, or to another than the pending one. -/
theorem step_strayAnswer {s : State} {n : Nat} {a : Answer} {ts : List Turn} (h : s.turns = .answer n a :: ts)
    (hp : s.pending = none ∨ n ≠ s.sentCount) : step s = .next { s with turns := ts } := by
  simp only [step, nextStep, h, answerStep]
  split
  · rfl
  · next hq => exact if_neg (hp.resolve_left (by simp [hq]))

/-- The things a transport's turn can be. -/
theorem step_answer_cases {s : State} {n : Nat} {a : Answer} {ts : List Turn} (h : s.turns = .answer n a :: ts) :
    s.pending ≠ none ∧ n = s.sentCount ∧ step s = blockStep { s with turns := ts, reply := some a }
    ∨ (s.pending = none ∨ n ≠ s.sentCount) ∧ step s = .next { s with turns := ts } := by
  by_cases hs : s.pending = none ∨ n ≠ s.sentCount
  · exact .inr ⟨hs, step_strayAnswer h hs⟩
  · rw [not_or, not_not] at hs
    obtain ⟨hp, rfl⟩ := hs
    exact .inl ⟨hp, rfl, step_answer h hp⟩

/-! ### The block's own step -/

theorem blockStep_idle {s : State} (h : s.busyOp = .idle) : blockStep s = .next s := by simp only [blockStep, h]

theorem blockStep_opening {s : State} (h : s.busyOp = .opening) : blockStep s = openStep s := by
  simp only [blockStep, h]

theorem blockStep_committing {s : State} (h : s.busyOp = .committing) : blockStep s = commitStep s := by
  simp only [blockStep, h]

/-! ### An OPEN run -/

theorem openStep_end {s : State} (h : s.stage = .fetch) (he : s.ptr = s.scriptLen) :
    openStep s = .next (finishOpen s) := by simp only [openStep, h, he, if_true]

theorem openStep_fetch {s : State} {bytes : List Byte} (h : s.stage = .fetch) (he : s.ptr ≠ s.scriptLen)
    (hf : fetchBytes s = some bytes) : openStep s = decodeStep bytes s := by
  simp only [openStep, h, he, if_false, hf]

/-- The record that stands whole at `PTR` is decoded. -/
theorem openStep_record {s : State} {r : Record} (hw : r.wf = true) (h : s.stage = .fetch)
    (hfit : s.ptr.toNat + r.length ≤ s.scriptLen.toNat)
    (hread : s.script.readBytes s.ptr.toNat r.length = some (encodeRecord r)) :
    openStep s = .next (latchRecord (encodeRecord r) s) := by
  have he : s.ptr ≠ s.scriptLen := by
    intro he
    rw [he, Record.length_eq] at hfit
    omega
  have hd := decodeRecord_encodeRecord hw []
  rw [List.append_nil] at hd
  rw [openStep_fetch h he (fetchBytes_record hw hfit hread)]
  simp only [decodeStep, hd]

/-- The record in the latch goes on. -/
theorem openStep_latched {s : State} (h : s.stage = .cmd ∨ s.stage = .data ∨ s.stage = .delay ∨ s.stage = .done) :
    openStep s = runRecord s.latch.record s := by
  rcases h with h | h | h | h <;> simp only [openStep, h] <;> exact exec_classify _ _ _ rfl

/-! ### A COMMIT run -/

theorem commitStep_validate {s : State} (h : s.stage = .validate) : commitStep s = validateStack s := by
  simp only [commitStep, h]

theorem commitStep_resolve {s : State} (h : s.stage = .resolve) : commitStep s = resolveStack s := by
  simp only [commitStep, h]

/-- What the validation phase does to a stack whose objects exist. -/
theorem validateStack_cases {s : State} (h : stackObjectsExist s = true) :
    (∃ c, firstInvalid s = some c ∧ validateStack s = .next (raise (invalidIndex c) s))
    ∨ firstInvalid s = none ∧ validateStack s = .next (goTo .resolve s) := by
  match hf : firstInvalid s with
  | some c => exact .inl ⟨c, rfl, by simp [validateStack, h, hf]⟩
  | none => exact .inr ⟨rfl, by simp [validateStack, h, hf]⟩

/-- The resolve phase of a validated stack. -/
theorem resolveStack_valid {s : State} (h : stackObjectsExist s = true) (hf : firstInvalid s = none) :
    resolveStack s = .next (storeFrame s) := by
  simp [resolveStack, h, hf]

theorem commitStep_stream {s : State} (h : s.stage = .stream) : commitStep s = streamChunk s := by
  simp only [commitStep, h]

/-- A chunk of a stored frame is a request like any other. -/
theorem streamChunk_chunk {s : State} (h : s.chunkPos < s.cfg.framePixels)
    (hf : chunkEnd s.cfg s.chunkPos ≤ s.frame.length) :
    streamChunk s = .next (transact (.data (chunkBytes s s.chunkPos (chunkEnd s.cfg s.chunkPos)))
      (chunkError s.chunkPos) (chunkSent (chunkEnd s.cfg s.chunkPos)) s) := by
  simp only [streamChunk]
  rw [if_neg (by omega), if_neg (by omega)]

theorem streamChunk_end {s : State} (h : s.cfg.framePixels ≤ s.chunkPos) :
    streamChunk s = .next (finishCommit s) := by
  simp only [streamChunk]
  rw [if_pos h]

end Sys2Proof.Machine
end

