-- ==== Sys2Proof/Laws/Legal.lean ====
section
/-! SUPPORT. Small laws of the legal states. -/

namespace Sys2Proof.Machine

/-- Whether a state is legal does not depend on the coming turns. -/
theorem State.Legal.withTurns {s : State} (h : s.Legal) (ts : List Turn) : State.Legal { s with turns := ts } :=
  ⟨h.config, h.scriptForm, h.scriptSpace, h.scriptLength, h.scriptWritten, h.paletteCount, h.paletteSizes,
    h.bitmapCount, h.bitmapShapes, h.slotCount, h.slots, h.stackSize, h.recordCounts, h.recordSizes,
    h.pixelCount, h.noOutcome, h.openingSession, h.committingSession, h.idlePending, h.pendingSent,
    h.replyTaken, h.openingRun, h.committingRun⟩

/-- Nor on the last response. -/
theorem State.Legal.withResponse {s : State} (h : s.Legal) (resp : Option Response) :
    State.Legal { s with response := resp } :=
  ⟨h.config, h.scriptForm, h.scriptSpace, h.scriptLength, h.scriptWritten, h.paletteCount, h.paletteSizes,
    h.bitmapCount, h.bitmapShapes, h.slotCount, h.slots, h.stackSize, h.recordCounts, h.recordSizes,
    h.pixelCount, h.noOutcome, h.openingSession, h.committingSession, h.idlePending, h.pendingSent,
    h.replyTaken, h.openingRun, h.committingRun⟩

/-- A slot of a legal state's stack names a bitmap that exists, with all its cells. -/
theorem State.Legal.stackBitmap {s : State} (h : s.Legal) {l : Placement} (hl : l ∈ stack s) :
    ∃ bmp, s.bitmaps[l.bmp]? = some bmp ∧ bitmapLegal s.cfg bmp := by
  have hlt : l.bmp < s.bitmaps.length := by
    rw [h.bitmapCount]
    exact (h.slots l (List.mem_of_mem_take hl)).1
  exact ⟨_, List.getElem?_eq_getElem hlt, h.bitmapShapes _ (List.getElem_mem hlt)⟩

/-- So the resolve phase of a legal state never meets a missing object. -/
theorem State.Legal.objectsExist {s : State} (h : s.Legal) : stackObjectsExist s = true := by
  simp only [stackObjectsExist, Bool.and_eq_true, decide_eq_true_eq, List.all_eq_true]
  refine ⟨h.slotCount ▸ h.stackSize, fun l hl => ⟨?_, ?_⟩⟩
  · rw [h.paletteCount]
    exact (h.slots l (List.mem_of_mem_take hl)).2.1
  · obtain ⟨bmp, hb, -, -, hc, -⟩ := h.stackBitmap hl
    simpa [hb] using hc

end Sys2Proof.Machine
end

