-- ==== Sys2Proof/Laws/PerInstr.lean ====
section
/-! SUPPORT. Laws stated one instruction at a time. `RowMatch`: the packet of a well-formed instruction
matches its own row of the opcode table (30_encoding.md R100, R103), with the row's mask, match and extra
condition. -/

namespace Sys2Proof.Laws.RowMatch

/-- A record's `W = (S[a] << 8) | S[a+1]` (R100). -/
def recordWord : List Byte → Option (BitVec 16)
  | opcode :: desc :: _ => some (opcode ++ desc)
  | _ => none

/-- A record row: `W` matches under the mask, and `W[6:0] ≠ 0` where the row asks for it. -/
def recordRow (mask value : BitVec 16) (hasData : Bool) : Packet → Bool
  | .record bytes =>
    match recordWord bytes with
    | some w => w &&& mask == value && (!hasData || w.extractLsb' 0 7 != 0)
    | none => false
  | .request _ => false

/-- A host row: the operation code. -/
def hostRow (code : Byte) : Packet → Bool
  | .record _ => false
  | .request q => q.code == code

/-- The row of an instruction. -/
def row (c : Config) : Instr → Packet → Bool
  | .cmd _ => recordRow 0x00FF 0x0000 false
  | .cmdDelay _ _ => recordRow 0x00FF 0x0080 false
  | .cmdData _ _ => recordRow 0x0080 0x0000 true
  | .cmdDataDelay _ _ _ => recordRow 0x0080 0x0080 true
  | .snoopPixfmt _ _ => recordRow 0xFF00 (c.opcPixfmt ++ 0x00#8) true
  | .snoopMadctl _ _ => recordRow 0xFF00 (c.opcMadctl ++ 0x00#8) true
  | .loadScript _ => hostRow 0x01
  | .openSession => hostRow 0x02
  | .createPalette _ _ => hostRow 0x03
  | .writePalette _ _ _ => hostRow 0x04
  | .createBitmap _ _ _ => hostRow 0x05
  | .writeCell _ _ _ _ => hostRow 0x06
  | .setLayer _ _ _ _ _ _ => hostRow 0x07
  | .setLayerCount _ => hostRow 0x08
  | .commit => hostRow 0x09
  | .readReg _ => hostRow 0x0A

/-- The packet of a well-formed instruction matches its row. -/
def Statement (i : Instr) : Prop := ∀ c, WellFormed c i = true → row c i (encode c i) = true

theorem append_and_low (opcode desc mask : Byte) :
    (opcode ++ desc) &&& (0x00#8 ++ mask) = 0x00#8 ++ (desc &&& mask) := by
  ext j hj
  simp only [BitVec.getElem_and, BitVec.getElem_append]
  split <;> simp

theorem append_and_high (opcode desc : Byte) : (opcode ++ desc) &&& 0xFF00#16 = opcode ++ 0x00#8 := by
  show (opcode ++ desc) &&& (0xFF#8 ++ 0x00#8) = opcode ++ 0x00#8
  ext j hj
  simp only [BitVec.getElem_and, BitVec.getElem_append]
  split
  · simp
  · have hones : (0xFF#8) = BitVec.allOnes 8 := rfl
    rw [hones, BitVec.getElem_allOnes, Bool.and_true]

theorem append_low7 (opcode desc : Byte) : (opcode ++ desc).extractLsb' 0 7 = desc.extractLsb' 0 7 := by
  ext j hj
  have h8 : j < 8 := by omega
  simp only [BitVec.getElem_extractLsb', BitVec.getLsbD_append, Nat.zero_add, h8, if_true]

theorem descByte_low7 (d : Bool) {n : Nat} (h1 : 1 ≤ n) (h2 : n ≤ 127) : (descByte d n).extractLsb' 0 7 ≠ 0#7 := by
  intro h
  have := descLen_descByte d h2
  rw [descLen, h] at this
  simp at this
  omega

theorem descByte_high (d : Bool) {n : Nat} (h : n ≤ 127) :
    descByte d n &&& 0x80#8 = if d then 0x80#8 else 0x00#8 := by
  interval_cases n <;> cases d <;> rfl

/-- A record with data matches a row that asks only for the delay flag. -/
theorem dataRow {opcode : Byte} {data : List Byte} {delay : Option Byte} (h : payloadOk data = true) :
    recordRow 0x0080 (if delay.isSome then 0x0080 else 0x0000) true
      (.record (encodeRecord ⟨opcode, data, delay⟩)) = true := by
  obtain ⟨h1, h2⟩ : 1 ≤ data.length ∧ data.length ≤ 127 := by simpa [payloadOk] using h
  have hm : (opcode ++ descByte delay.isSome data.length) &&& 0x0080#16
      = 0x00#8 ++ (descByte delay.isSome data.length &&& 0x80#8) :=
    append_and_low opcode (descByte delay.isSome data.length) 0x80#8
  have hn := descByte_low7 delay.isSome h1 h2
  simp only [recordRow, encodeRecord, recordWord, List.cons_append, List.nil_append, Bool.and_eq_true,
    beq_iff_eq, Bool.or_eq_true, bne_iff_ne]
  refine ⟨?_, .inr ?_⟩
  · erw [hm, descByte_high _ h2]
    have hd : ∀ d : Bool, 0x00#8 ++ (if d then 0x80#8 else 0x00#8) = if d then 0x0080#16 else 0x0000#16 := by decide
    exact hd _
  · erw [append_low7]
    exact hn

/-- A record with data matches the row of its opcode. -/
theorem opcodeRow {opcode : Byte} {data : List Byte} {delay : Option Byte} (h : payloadOk data = true) :
    recordRow 0xFF00 (opcode ++ 0x00#8) true (.record (encodeRecord ⟨opcode, data, delay⟩)) = true := by
  obtain ⟨h1, h2⟩ : 1 ≤ data.length ∧ data.length ≤ 127 := by simpa [payloadOk] using h
  have hn := descByte_low7 delay.isSome h1 h2
  simp only [recordRow, encodeRecord, recordWord, List.cons_append, List.nil_append, Bool.and_eq_true,
    beq_iff_eq, Bool.or_eq_true, bne_iff_ne]
  refine ⟨append_and_high _ _, .inr ?_⟩
  erw [append_low7]
  exact hn

/-- A record without data matches the row of its whole descriptor. -/
theorem plainRow (opcode : Byte) (delay : Option Byte) :
    recordRow 0x00FF (if delay.isSome then 0x0080 else 0x0000) false
      (.record (encodeRecord ⟨opcode, [], delay⟩)) = true := by
  have hm : (opcode ++ descByte delay.isSome 0) &&& 0x00FF#16 = 0x00#8 ++ (descByte delay.isSome 0 &&& 0xFF#8) :=
    append_and_low opcode (descByte delay.isSome 0) 0xFF#8
  simp only [recordRow, encodeRecord, recordWord, List.cons_append, List.nil_append, List.length_nil,
    Bool.and_eq_true, beq_iff_eq, Bool.not_false, Bool.true_or, and_true]
  erw [hm]
  have hd : ∀ d : Bool, 0x00#8 ++ (descByte d 0 &&& 0xFF#8) = if d then 0x0080#16 else 0x0000#16 := by decide
  exact hd _

theorem cmd (opcode : Byte) : Statement (.cmd opcode) := fun _ _ => plainRow opcode none

theorem cmdDelay (opcode delayMs : Byte) : Statement (.cmdDelay opcode delayMs) :=
  fun _ _ => plainRow opcode (some delayMs)

theorem cmdData (opcode : Byte) (data : List Byte) : Statement (.cmdData opcode data) := fun c h => by
  have h : payloadOk data = true := by simp [WellFormed] at h; exact h.1.1
  exact dataRow (delay := none) h

theorem cmdDataDelay (opcode : Byte) (data : List Byte) (delayMs : Byte) :
    Statement (.cmdDataDelay opcode data delayMs) := fun c h => by
  have h : payloadOk data = true := by simp [WellFormed] at h; exact h.1.1
  exact dataRow (delay := some delayMs) h

theorem snoopPixfmt (data : List Byte) (delay : Option Byte) : Statement (.snoopPixfmt data delay) :=
  fun c h => opcodeRow (opcode := c.opcPixfmt) h

theorem snoopMadctl (data : List Byte) (delay : Option Byte) : Statement (.snoopMadctl data delay) :=
  fun c h => by
    have h : payloadOk data = true := by simp [WellFormed] at h; exact h.1
    exact opcodeRow (opcode := c.opcMadctl) h

theorem loadScript (bytes : List Byte) : Statement (.loadScript bytes) := fun _ _ => rfl

theorem openSession : Statement .openSession := fun _ _ => rfl

theorem createPalette (p n : Nat) : Statement (.createPalette p n) := fun _ _ => rfl

theorem writePalette (p i : Nat) (rgb : Rgb) : Statement (.writePalette p i rgb) := fun _ _ => rfl

theorem createBitmap (b w h : Nat) : Statement (.createBitmap b w h) := fun _ _ => rfl

theorem writeCell (b x y v : Nat) : Statement (.writeCell b x y v) := fun _ _ => rfl

theorem setLayer (k bmp pal : Nat) (x0 y0 : Int) (visible : Nat) :
    Statement (.setLayer k bmp pal x0 y0 visible) := fun _ _ => rfl

theorem setLayerCount (c : Nat) : Statement (.setLayerCount c) := fun _ _ => rfl

theorem commit : Statement .commit := fun _ _ => rfl

theorem readReg (r : Nat) : Statement (.readReg r) := fun _ _ => rfl

end Sys2Proof.Laws.RowMatch
end

