-- ==== Sys2Proof/Machine/Assembler.lean ====
section
/-! DEFINITION. The text form of records and host operations (30_encoding.md R104). Nothing of the machine
reads it; it is the notation of the spec's test vectors. Log entry 21. -/

namespace Sys2Proof.Machine

/-- A word of a text line: a name or a number, or one of the marks `[`, `]` and `,`. -/
abbrev Lexeme := List Char

/-- The words of a line, told apart by spaces and marks; `cur` is the word being read, last character
first. -/
def lexemes : (cur : Lexeme) → List Char → List Lexeme
  | cur, [] => if cur = [] then [] else [cur.reverse]
  | cur, c :: cs =>
    if c = ' ' then (if cur = [] then lexemes [] cs else cur.reverse :: lexemes [] cs)
    else if c = '[' ∨ c = ']' ∨ c = ',' then
      (if cur = [] then [c] :: lexemes [] cs else cur.reverse :: [c] :: lexemes [] cs)
    else lexemes (c :: cur) cs

/-- A digit's value. -/
def digit? (c : Char) : Option Nat :=
  if 48 ≤ c.toNat ∧ c.toNat ≤ 57 then some (c.toNat - 48)
  else if 65 ≤ c.toNat ∧ c.toNat ≤ 70 then some (c.toNat - 55)
  else if 97 ≤ c.toNat ∧ c.toNat ≤ 102 then some (c.toNat - 87)
  else none

/-- The number whose digits follow those of `v`. -/
def digits (base : Nat) : (v : Nat) → List Char → Option Nat
  | v, [] => some v
  | v, c :: cs =>
    match digit? c with
    | none => none
    | some d => if d < base then digits base (base * v + d) cs else none

/-- A decimal or `0x` number. -/
def numeral : Lexeme → Option Nat
  | [] => none
  | '0' :: 'x' :: c :: cs => digits 16 0 (c :: cs)
  | c :: cs => digits 10 0 (c :: cs)

/-- A number with an optional minus sign. -/
def integer : Lexeme → Option Int
  | '-' :: cs => (numeral cs).map (fun n => -(n : Int))
  | cs => (numeral cs).map (fun n => (n : Int))

/-- A number of one byte. -/
def byteNumeral (w : Lexeme) : Option Byte :=
  match numeral w with
  | none => none
  | some n => if n < 256 then some (BitVec.ofNat 8 n) else none

/-- The bytes of `B0, B1, …]` and the words after the mark `]`. -/
def byteList : List Lexeme → Option (List Byte × List Lexeme)
  | b :: [']'] :: rest => (byteNumeral b).map (fun v => ([v], rest))
  | b :: [','] :: rest =>
    match byteNumeral b, byteList rest with
    | some v, some (vs, rest') => some (v :: vs, rest')
    | _, _ => none
  | _ => none

/-- `delay MS`, or nothing. -/
def delayText : List Lexeme → Option (Option Byte)
  | [] => some none
  | [['d', 'e', 'l', 'a', 'y'], ms] => (byteNumeral ms).map some
  | _ => none

/-- `cmd OP`, then `data [B0, …]` of 1 to 127 bytes or nothing, then `delay MS` or nothing. -/
def recordText : List Lexeme → Option Record
  | ['c', 'm', 'd'] :: op :: ['d', 'a', 't', 'a'] :: ['['] :: rest =>
    match byteNumeral op, byteList rest with
    | some opcode, some (data, rest') =>
      if payloadOk data then (delayText rest').map (fun delay => ⟨opcode, data, delay⟩) else none
    | _, _ => none
  | ['c', 'm', 'd'] :: op :: rest =>
    match byteNumeral op with
    | none => none
    | some opcode => (delayText rest).map (fun delay => ⟨opcode, [], delay⟩)
  | _ => none

/-- The record of a text line, encoded: every textual record is exactly one record (R104). -/
def assembleRecord (line : List Char) : Option (List Byte) :=
  (recordText (lexemes [] line)).map encodeRecord

/-- The numbers of `A0, A1, …`. -/
def integers : List Lexeme → Option (List Int)
  | [] => some []
  | [a] => (integer a).map (fun v => [v])
  | a :: [','] :: rest =>
    match integer a, integers rest with
    | some v, some vs => if vs = [] then none else some (v :: vs)
    | _, _ => none
  | _ => none

/-- An argument in R103's unit: an offset is signed, a colour has 24 bits, any other is a count. -/
def textArg (code : Byte) (place : Nat) (v : Int) : Option Arg :=
  if code = 0x07#8 ∧ (place = 3 ∨ place = 4) then some (.offset v)
  else if v < 0 then none
  else if code = 0x04#8 ∧ place = 2 then
    (if v < 2 ^ 24 then some (.rgb (BitVec.ofNat 24 v.toNat)) else none)
  else some (.num v.toNat)

/-- The arguments of an operation code, from place `place` on. -/
def textArgs (code : Byte) : (place : Nat) → List Int → Option (List Arg)
  | _, [] => some []
  | place, v :: vs =>
    match textArg code place v, textArgs code (place + 1) vs with
    | some a, some as => some (a :: as)
    | _, _ => none

/-- The operation code of a mnemonic whose arguments are numbers (R103). -/
def operationCode (w : Lexeme) : Option Byte :=
  if w = ['O', 'P', 'E', 'N'] then some 0x02
  else if w = ['C', 'R', 'E', 'A', 'T', 'E', '_', 'P', 'A', 'L', 'E', 'T', 'T', 'E'] then some 0x03
  else if w = ['W', 'R', 'I', 'T', 'E', '_', 'P', 'A', 'L', 'E', 'T', 'T', 'E'] then some 0x04
  else if w = ['C', 'R', 'E', 'A', 'T', 'E', '_', 'B', 'I', 'T', 'M', 'A', 'P'] then some 0x05
  else if w = ['W', 'R', 'I', 'T', 'E', '_', 'C', 'E', 'L', 'L'] then some 0x06
  else if w = ['S', 'E', 'T', '_', 'L', 'A', 'Y', 'E', 'R'] then some 0x07
  else if w = ['S', 'E', 'T', '_', 'L', 'A', 'Y', 'E', 'R', '_', 'C', 'O', 'U', 'N', 'T'] then some 0x08
  else if w = ['C', 'O', 'M', 'M', 'I', 'T'] then some 0x09
  else if w = ['R', 'E', 'A', 'D', '_', 'R', 'E', 'G'] then some 0x0A
  else none

/-- The script of `LOAD_SCRIPT`, a list of bytes in brackets. -/
def scriptText : List Lexeme → Option (List Byte)
  | [['['], [']']] => some []
  | ['['] :: rest =>
    match byteList rest with
    | some (bytes, []) => some bytes
    | _ => none
  | _ => none

/-- A host operation: its mnemonic and its arguments in the order of R103. -/
def hostText : List Lexeme → Option HostReq
  | [] => none
  | w :: rest =>
    if w = ['L', 'O', 'A', 'D', '_', 'S', 'C', 'R', 'I', 'P', 'T'] then
      (scriptText rest).map (fun bytes => ⟨0x01, [.bytes bytes]⟩)
    else
      match operationCode w, integers rest with
      | some code, some vs => (textArgs code 0 vs).map (fun args => ⟨code, args⟩)
      | _, _ => none

/-- The host request of a text line. -/
def assembleRequest (line : List Char) : Option HostReq := hostText (lexemes [] line)

end Sys2Proof.Machine
end

