-- ==== Sys2Proof/Tests/Slice0.lean ====
section
/-! SUPPORT. The model's own tests: the well-formedness checks, decoding of words written out from the
spec, one step of each instruction (expected values from spec/95_test_vectors.md), and for each statement
with hypotheses a witness that meets them. -/

namespace Sys2Proof.Tests

open Sys2Proof Sys2Proof.Machine
open Host (Outcome)

/-! ### Helpers -/

/-- A part of the next state, none when the machine stops. -/
def after {α : Type} (o : Outcome State Fault Refusal) (part : State → α) : Option α :=
  match o with
  | .next t => some (part t)
  | .fault _ => none
  | .refused _ => none

/-- The response of a host operation in a state. -/
def answerOf (i : Instr) (s : State) : Option Response := (after (exec i s) (fun t => t.response)).join

/-- The block after reset with a script loaded. -/
def loaded (bytes : List Byte) : State := loadBytes bytes State.reset

/-- The same, in an OPEN run that stands before record 0. -/
def opening (bytes : List Byte) : State := startOpen (loaded bytes)

/-- A run inside the record `r`, at stage `g`. -/
def inRecord (r : Record) (g : Stage) : State :=
  { latchRecord (encodeRecord r) (opening (encodeRecord r)) with stage := g }

/-- The same with its request at that stage sent and not answered. -/
def waiting (r : Record) (g : Stage) (q : TxReq) : State := issue q (inRecord r g)

/-- The same with the answer on the reply line. -/
def answered (r : Record) (g : Stage) (q : TxReq) (a : Answer) : State :=
  { waiting r g q with reply := some a }

/-- The command write of a record waits, after a reset has abandoned the command write of another. -/
def afterReopen : State :=
  { waiting ⟨0x11, [], none⟩ .cmd (.cmd 0x11) with trace := [.sent (.cmd 0x29), .sent (.cmd 0x11)] }

/-- `PAL4` of 95_test_vectors.md. -/
def pal4 : Palette := ⟨[0x000000, 0xFF0000, 0x00FF00, 0x0000FF]⟩

/-- The objects of vector CV-3, in an open session. -/
def cv3 : State :=
  { State.reset with
    session := .opened
    palettes := [pal4, ⟨[]⟩, ⟨[]⟩, ⟨[]⟩]
    bitmaps := [⟨2, 2, [1, 2, 3, 0]⟩, ⟨0, 0, []⟩, ⟨0, 0, []⟩, ⟨0, 0, []⟩]
    layers := [⟨0, 0, 1, 0, true⟩, ⟨0, 0, 0, 0, true⟩, ⟨0, 0, 0, 0, true⟩, ⟨0, 0, 0, 0, true⟩]
    layerCount := 1 }

/-- The objects of vector CV-6, in an open session. -/
def cv6 : State :=
  { State.reset with
    session := .opened
    palettes := [pal4, ⟨[0x000000, 0xFF0000]⟩, ⟨[]⟩, ⟨[]⟩]
    bitmaps := [⟨4, 2, [1, 1, 1, 1, 1, 1, 1, 1]⟩, ⟨2, 2, [0, 0, 0, 5]⟩, ⟨0, 0, []⟩, ⟨0, 0, []⟩]
    layers := [⟨0, 0, 0, 0, true⟩, ⟨1, 1, -1, 1, false⟩, ⟨0, 0, 0, 0, true⟩, ⟨0, 0, 0, 0, true⟩]
    layerCount := 2 }

/-- A state at the start of a COMMIT run. -/
def committing (s : State) : State := startCommit s

/-- A COMMIT run of CV-3 whose stack has passed validation. -/
def resolving : State := goTo .resolve (committing cv3)

/-- The objects of CV-3 in a configuration that sends a frame as the chunks [0, 3) and [3, 8). -/
def cv3Chunks : State := { cv3 with cfg := { Config.default with chunking := .endsAt [3, 8] } }

/-- A COMMIT run of CV-3 with its frame resolved. -/
def streaming : State := storeFrame (committing cv3)

/-- The same with its first chunk sent and not answered. -/
def chunkWaiting : State := issue (.data (chunkBytes streaming 0 4)) streaming

/-! ### Well-formedness -/

theorem test_wf_cmdData_empty : WellFormed Config.default (.cmdData 0x36 []) = false := by decide
theorem test_wf_cmdData_long :
    WellFormed Config.default (.cmdData 0xF0 (List.replicate 128 0)) = false := by simp [WellFormed, payloadOk]
theorem test_wf_cmdData_pixfmt : WellFormed Config.default (.cmdData 0x3A [0x55]) = false := by decide
theorem test_wf_cmdData_madctl : WellFormed Config.default (.cmdData 0x36 [0x48]) = false := by decide
theorem test_wf_cmdDataDelay_empty : WellFormed Config.default (.cmdDataDelay 0xF0 [] 1) = false := by decide
theorem test_wf_cmdDataDelay_long :
    WellFormed Config.default (.cmdDataDelay 0xF0 (List.replicate 128 0) 1) = false := by simp [WellFormed, payloadOk]
theorem test_wf_cmdDataDelay_pixfmt : WellFormed Config.default (.cmdDataDelay 0x3A [0x55] 1) = false := by decide
theorem test_wf_cmdDataDelay_madctl : WellFormed Config.default (.cmdDataDelay 0x36 [0x48] 1) = false := by decide
theorem test_wf_snoopPixfmt_empty : WellFormed Config.default (.snoopPixfmt [] none) = false := by decide
theorem test_wf_snoopPixfmt_long :
    WellFormed Config.default (.snoopPixfmt (List.replicate 128 0) none) = false := by simp [WellFormed, payloadOk]
theorem test_wf_snoopMadctl_empty : WellFormed Config.default (.snoopMadctl [] (some 1)) = false := by decide
theorem test_wf_snoopMadctl_long :
    WellFormed Config.default (.snoopMadctl (List.replicate 128 0) none) = false := by simp [WellFormed, payloadOk]
theorem test_wf_snoopMadctl_equal_opcodes :
    WellFormed { Config.default with opcMadctl := 0x3A } (.snoopMadctl [0x48] none) = false := by decide

theorem test_wf_config : Config.default.wf = true := by decide
theorem test_wf_config_scriptMax : Config.wf { Config.default with scriptMax := 65536 } = false := by decide
theorem test_wf_config_frameW : Config.wf { Config.default with frameW := 0 } = false := by decide
theorem test_wf_config_frameH : Config.wf { Config.default with frameH := 65536 } = false := by decide
theorem test_wf_config_indexBits : Config.wf { Config.default with indexBits := 17 } = false := by decide
theorem test_wf_config_palMax : Config.wf { Config.default with palMax := 257 } = false := by decide
theorem test_wf_config_numPalettes : Config.wf { Config.default with numPalettes := 257 } = false := by decide
theorem test_wf_config_numBitmaps : Config.wf { Config.default with numBitmaps := 0 } = false := by decide
theorem test_wf_config_bmpMaxW : Config.wf { Config.default with bmpMaxW := 0 } = false := by decide
theorem test_wf_config_bmpMaxH : Config.wf { Config.default with bmpMaxH := 65536 } = false := by decide
theorem test_wf_config_maxLayers : Config.wf { Config.default with maxLayers := 256 } = false := by decide
theorem test_wf_config_coordBits : Config.wf { Config.default with coordBits := 1 } = false := by decide
theorem test_wf_config_chunking :
    Config.wf { Config.default with chunking := .endsAt [4, 4, 8] } = false := by decide

/-! ### Decoding of words written out from the spec

Descriptor `d nnnnnnn` (30_encoding.md R91, R93); host codes of R103. -/

theorem test_decode_cmd :
    decode Config.default (.record [0b00010001, 0b0_0000000]) = .ok (.cmd 0x11) := by decide
theorem test_decode_cmdDelay :
    decode Config.default (.record [0b00101001, 0b1_0000000, 0b00010100]) = .ok (.cmdDelay 0x29 20) := by decide
theorem test_decode_cmdData :
    decode Config.default (.record [0b11110000, 0b0_0000010, 0b11000011, 0b00000001])
      = .ok (.cmdData 0xF0 [0xC3, 0x01]) := by decide
theorem test_decode_cmdDataDelay :
    decode Config.default (.record [0b10110000, 0b1_0000010, 0b00010010, 0b00110100, 0b00000101])
      = .ok (.cmdDataDelay 0xB0 [0x12, 0x34] 5) := by decide
theorem test_decode_snoopPixfmt :
    decode Config.default (.record [0b00111010, 0b1_0000001, 0b01010101, 0b00001010])
      = .ok (.snoopPixfmt [0x55] (some 10)) := by decide
theorem test_decode_snoopMadctl :
    decode Config.default (.record [0b00110110, 0b0_0000001, 0b01001000]) = .ok (.snoopMadctl [0x48] none) := by
  decide
/-- DV-13: a recognised opcode without data is a plain command. -/
theorem test_decode_pixfmt_without_data :
    decode Config.default (.record [0b00111010, 0b0_0000000]) = .ok (.cmd 0x3A) := by decide
theorem test_decode_truncated :
    decode Config.default (.record [0x36, 0x02, 0x48]) = .error (.truncated .shortData) := by decide
theorem test_decode_trailing :
    decode Config.default (.record [0x11, 0x00, 0x29]) = .error .trailingBytes := by decide
theorem test_decode_loadScript :
    decode Config.default (.request ⟨0x01, [.bytes [0x11, 0x00]]⟩) = .ok (.loadScript [0x11, 0x00]) := by decide
theorem test_decode_openSession : decode Config.default (.request ⟨0x02, []⟩) = .ok .openSession := by decide
theorem test_decode_createPalette :
    decode Config.default (.request ⟨0x03, [.num 1, .num 4]⟩) = .ok (.createPalette 1 4) := by decide
theorem test_decode_writePalette :
    decode Config.default (.request ⟨0x04, [.num 1, .num 3, .rgb 0x0000FF]⟩)
      = .ok (.writePalette 1 3 0x0000FF) := by decide
theorem test_decode_createBitmap :
    decode Config.default (.request ⟨0x05, [.num 1, .num 4, .num 2]⟩) = .ok (.createBitmap 1 4 2) := by decide
theorem test_decode_writeCell :
    decode Config.default (.request ⟨0x06, [.num 1, .num 3, .num 0, .num 2]⟩) = .ok (.writeCell 1 3 0 2) := by
  decide
theorem test_decode_setLayer :
    decode Config.default (.request ⟨0x07, [.num 3, .num 2, .num 1, .offset (-1), .offset 5, .num 0]⟩)
      = .ok (.setLayer 3 2 1 (-1) 5 0) := by decide
theorem test_decode_setLayerCount :
    decode Config.default (.request ⟨0x08, [.num 2]⟩) = .ok (.setLayerCount 2) := by decide
theorem test_decode_commit : decode Config.default (.request ⟨0x09, []⟩) = .ok .commit := by decide
theorem test_decode_readReg : decode Config.default (.request ⟨0x0A, [.num 7]⟩) = .ok (.readReg 7) := by decide
theorem test_decode_unknown : decode Config.default (.request ⟨0x00, []⟩) = .error .unknownCode := by decide
theorem test_decode_badArguments :
    decode Config.default (.request ⟨0x09, [.num 1]⟩) = .error .badArguments := by decide
/-- The table's words: `W = S[a] << 8 | S[a+1]`, zeros above. -/
theorem test_tableWord_record : decodeTableWord 16 0xB082 = some (.cmdDataDelay 0xB0 [0, 0] 0) := by decide
theorem test_tableWord_host : decodeTableWord 8 0x0A = some (.readReg 0) := by decide
theorem test_withFetchWord_record :
    after (step (State.reset.withFetchWord 16 0x2980)) (fun t => t.trace) = some [.sent (.cmd 0x29)] := by decide
/-- The placed record stands as after its decode step. -/
theorem test_withFetchWord_decoded :
    after (step (placeScript [0x29, 0x80, 0x00] State.reset)) id
      = some { State.reset.withFetchWord 16 0x2980 with turns := [] } := by decide
theorem test_withFetchWord_host :
    after (step (State.reset.withFetchWord 8 0x09)) (fun t => t.response) = some (some ⟨.notOpen, 0⟩) := by decide

/-- R105: `cmd 0x29 delay 20`. -/
theorem test_assemble_record :
    assembleRecord ['c', 'm', 'd', ' ', '0', 'x', '2', '9', ' ', 'd', 'e', 'l', 'a', 'y', ' ', '2', '0']
      = some [0x29, 0x80, 0x14] := by decide
/-- R104: `WRITE_CELL 0, 3, 1, 2`. -/
theorem test_assemble_request :
    assembleRequest ['W', 'R', 'I', 'T', 'E', '_', 'C', 'E', 'L', 'L', ' ', '0', ',', ' ', '3', ',', ' ', '1', ',',
      ' ', '2'] = some ⟨0x06, [.num 0, .num 3, .num 1, .num 2]⟩ := by decide

/-! ### One step of each instruction, from 95_test_vectors.md -/

/-- DV-1. -/
theorem test_cmd_sends :
    after (exec (.cmd 0x11) (inRecord ⟨0x11, [], none⟩ .cmd)) (fun t => t.trace) = some [.sent (.cmd 0x11)] := by
  decide
theorem test_cmd_completes :
    after (exec (.cmd 0x11) (inRecord ⟨0x11, [], none⟩ .done)) (fun t => (t.ptr, t.recDone)) = some (2, 1) := by
  decide

/-- DV-2, DV-17. -/
theorem test_cmdDelay_delays :
    after (exec (.cmdDelay 0x29 20) (inRecord ⟨0x29, [], some 20⟩ .delay)) (fun t => t.pending)
      = some (some (.delay 20)) := by decide
theorem test_cmdDelay_fails :
    after (exec (.cmdDelay 0x29 20) (answered ⟨0x29, [], some 20⟩ .delay (.delay 20) .fail))
      (fun t => (regValue t 0, regValue t 1, t.ptr)) = some (0x32, 0x00060000, 0) := by decide

/-- WE-2, record 2: a payload is one request; DV-19's code of a failed data write. -/
theorem test_cmdData_sends :
    after (exec (.cmdData 0xF0 [0xC3, 0x01]) (inRecord ⟨0xF0, [0xC3, 0x01], none⟩ .data))
      (fun t => (t.pending, t.txMode)) = some (some (.data [0xC3, 0x01]), .data) := by decide
theorem test_cmdData_fails :
    after (exec (.cmdData 0xF0 [0xC3]) (answered ⟨0xF0, [0xC3], none⟩ .data (.data [0xC3]) .fail))
      (fun t => regValue t 1) = some 0x00050000 := by decide

/-- DV-4. -/
theorem test_cmdDataDelay_delay_follows_data :
    after (exec (.cmdDataDelay 0xB0 [0x12, 0x34] 5)
      (answered ⟨0xB0, [0x12, 0x34], some 5⟩ .data (.data [0x12, 0x34]) .ok)) (fun t => t.stage)
      = some .delay := by decide
theorem test_cmdDataDelay_completes :
    after (exec (.cmdDataDelay 0xB0 [0x12, 0x34] 5) (inRecord ⟨0xB0, [0x12, 0x34], some 5⟩ .done))
      (fun t => t.ptr) = some 5 := by decide

/-- DV-14, DV-18. -/
theorem test_snoopPixfmt_first_byte :
    after (exec (.snoopPixfmt [0x66, 0x77] none) (answered ⟨0x3A, [0x66, 0x77], none⟩ .data (.data [0x66, 0x77]) .ok))
      (fun t => regValue t 9) = some 0x00000166 := by decide
theorem test_snoopPixfmt_fail_captures_nothing :
    after (exec (.snoopPixfmt [0x55] none) (answered ⟨0x3A, [0x55], none⟩ .data (.data [0x55]) .fail))
      (fun t => regValue t 9) = some 0 := by decide

/-- DV-3, DV-19. -/
theorem test_snoopMadctl_captures :
    after (exec (.snoopMadctl [0x48] none) (answered ⟨0x36, [0x48], none⟩ .data (.data [0x48]) .ok))
      (fun t => regValue t 9) = some 0x01480000 := by decide
theorem test_snoopMadctl_fail_captures_nothing :
    after (exec (.snoopMadctl [0x48] none) (answered ⟨0x36, [0x48], none⟩ .data (.data [0x48]) .fail))
      (fun t => t.cfgMadctlValid) = some false := by decide

/-- DV-6, DV-9: the error registers of a record that is cut short. -/
theorem test_malformed_descMissing :
    after (step (opening [0x11])) (fun t => (regValue t 0, regValue t 1)) = some (0x22, 0x00010000) := by decide
/-- R123: the decode step fills the latch and sends nothing. -/
theorem test_decode_step :
    after (step (opening [0x29, 0x80, 0x14])) (fun t => (t.latch, t.trace, t.ptr))
      = some (⟨0x29, 0, true, [], 20⟩, [], 0) := by decide
/-- R271: the answer to an abandoned request changes nothing while a new one is pending; its own does. -/
theorem test_late_answer :
    after (step { afterReopen with turns := [.answer 1 .fail] }) id = some afterReopen
    ∧ after (step { afterReopen with turns := [.answer 2 .fail] }) (fun t => regValue t 0) = some 0x32 := by
  decide
/-- DV-5. -/
theorem test_empty_script :
    after (step (opening [])) (fun t => (regValue t 0, t.trace)) = some (0x11, []) := by decide

/-- SV-19; R205. -/
theorem test_loadScript_busy : answerOf (.loadScript [0x11, 0x00]) (opening [0x11, 0x00]) = some ⟨.busy, 0⟩ := by
  decide
theorem test_loadScript_stores :
    after (exec (.loadScript [0x29, 0x80, 0x14]) (loaded [0x11, 0x00])) (fun t => (t.script, t.scriptLen))
      = some ([(0, 0x29), (1, 0x80), (2, 0x14)], 3) := by decide

/-- SV-20. -/
theorem test_open_after_failure :
    after (exec .openSession { loaded [0x11, 0x00] with session := .failed, ptr := 2 })
      (fun t => (t.ptr, regValue t 0)) = some (0, 0x04) := by decide

/-- SV-6, SV-22. -/
theorem test_createPalette_handle : answerOf (.createPalette 4 2) cv3 = some ⟨.argRange, 0⟩ := by decide
theorem test_createPalette_empty :
    after (exec (.createPalette 0 0) cv3) (fun t => (palN t 0, t.response)) = some (0, some ⟨.accepted, 0⟩) := by
  decide

/-- SV-7. -/
theorem test_writePalette_range : answerOf (.writePalette 0 4 0xFF0000) cv3 = some ⟨.argRange, 0⟩ := by decide
theorem test_writePalette_entry :
    after (exec (.writePalette 0 3 0x123456) cv3) (fun t => (palRead? t 0 3, palRead? t 0 2))
      = some (some 0x123456, some 0x00FF00) := by decide

/-- R209. -/
theorem test_createBitmap_zero :
    after (exec (.createBitmap 0 2 2) cv3) (fun t => bmpRead? t 0 1 0) = some (some 0) := by decide

/-- SV-9, SV-10. -/
theorem test_writeCell_value : answerOf (.writeCell 0 1 1 256) cv3 = some ⟨.argRange, 0⟩ := by decide
theorem test_writeCell_above_palette :
    after (exec (.writeCell 0 1 1 200) cv3) (fun t => (bmpRead? t 0 1 1, bmpRead? t 0 0 1))
      = some (some 200, some 3) := by decide

/-- SV-11, SV-12. -/
theorem test_setLayer_bounds :
    after (exec (.setLayer 0 0 0 (-32768) 32767 1) cv3) (fun t => t.layers[0]?)
      = some (some ⟨0, 0, -32768, 32767, true⟩) := by decide
theorem test_setLayer_range : answerOf (.setLayer 0 0 0 32768 0 1) cv3 = some ⟨.argRange, 0⟩ := by decide

/-- SV-14. -/
theorem test_setLayerCount_range : answerOf (.setLayerCount 5) cv3 = some ⟨.argRange, 0⟩ := by decide
theorem test_setLayerCount_full :
    after (exec (.setLayerCount 4) cv3) (fun t => t.layerCount) = some 4 := by decide

/-- SV-2, SV-5. -/
theorem test_commit_notOpen : answerOf .commit State.reset = some ⟨.notOpen, 0⟩ := by decide
theorem test_commit_starts : after (exec .commit cv3) (fun t => regValue t 0) = some 0x09 := by decide

/-- SV-4, SV-15. -/
theorem test_readReg_busy : answerOf (.readReg 0) (opening [0x11, 0x00]) = some ⟨.accepted, 0x04⟩ := by decide
theorem test_readReg_range : answerOf (.readReg 13) State.reset = some ⟨.argRange, 0⟩ := by decide

/-- CV-3: the frame and its first chunk. -/
theorem test_commit_frame :
    after (step resolving) (fun t => t.frame)
      = some [0x0000, 0xF800, 0x07E0, 0x0000, 0x0000, 0x001F, 0x0000, 0x0000] := by decide
theorem test_commit_row :
    after (step streaming) (fun t => t.pending)
      = some (some (.data [0x00, 0x00, 0xF8, 0x00, 0x07, 0xE0, 0x00, 0x00])) := by decide
/-- CV-6. -/
theorem test_commit_invalidIndex :
    after (step (committing cv6))
      (fun t => ([regValue t 0, regValue t 1, regValue t 3, regValue t 4, regValue t 5], t.trace))
      = some ([0x41, 0x00080000, 0x00010001, 1, 5], []) := by decide
/-- CV-8. -/
theorem test_commit_fails :
    after (step { issue (.data [0, 0, 0, 0, 0, 0, 0, 0])
        { storeFrame (committing { State.reset with session := .opened }) with chunkPos := 4, pixSent := 4 } with
        turns := [.answer 1 .fail] })
      (fun t => (regValue t 0, regValue t 1, regValue t 2, regValue t 7)) = some (0x31, 0x00070000, 4, 4) := by
  decide

/-- PV-6, PV-11. -/
theorem test_pack565 : pack565 0x123456 = 0x11AA := by decide
theorem test_pack565_below : pack565 0xF7FBF7 = 0xF7DE := by decide
theorem test_unpack565 : unpack565 0x11AA = 0x103450 := by decide
theorem test_frameBytes_le : frameBytes false [0xF800, 0x001F] = [0x00, 0xF8, 0x1F, 0x00] := by decide

/-! ### Witnesses: for each statement with hypotheses, values that meet them

Named after the statement. -/

/-- The illustrative script of WE-2 and its records. -/
def scriptS : List Byte :=
  [0x01, 0x80, 0x96, 0x11, 0x80, 0x96, 0xF0, 0x01, 0xC3, 0x36, 0x01, 0x48, 0x3A, 0x01, 0x55, 0x29, 0x80, 0x14]
def recordsS : List Record :=
  [⟨0x01, [], some 150⟩, ⟨0x11, [], some 150⟩, ⟨0xF0, [0xC3], none⟩, ⟨0x36, [0x48], none⟩,
    ⟨0x3A, [0x55], none⟩, ⟨0x29, [], some 20⟩]

/-- Format CND at its longest, 130 bytes (DV-12). -/
def longest : Record := ⟨0xC0, List.replicate 127 0x7E, some 255⟩

/-- The state with these turns to come. -/
def withTurns (ts : List Turn) (s : State) : State := { s with turns := ts }

theorem witness_DecodeOfEncodeIsTheInstruction :
    ∀ i ∈ [Instr.cmd 0x3A, .cmdDelay 0x29 20, .cmdData 0xF0 (List.replicate 127 0), .cmdDataDelay 0xB0 [0] 255,
      .snoopPixfmt [0x55] none, .snoopMadctl (List.replicate 127 0) (some 0), .loadScript [], .openSession,
      .createPalette 0 0, .writePalette 0 0 0, .createBitmap 0 0 0, .writeCell 0 0 0 0, .setLayer 0 0 0 0 0 2,
      .setLayerCount 0, .commit, .readReg 13],
    WellFormed Config.default i = true := by simp [WellFormed, payloadOk, Config.default]

theorem witness_ScriptRoundTrip :
    decodeScript scriptS = .ok recordsS ∧ ∀ r ∈ recordsS, r.wf = true := by decide
theorem witness_RecordLayout : longest.wf = true ∧ Record.wf ⟨0x11, [], none⟩ = true := by
  simp [longest, Record.wf]
theorem witness_RecordOperands :
    ((0x02 : Byte).getLsbD 7 = false ∧ ((0x02 : Byte).extractLsb' 0 7).toNat ≤ [0x12#8, 0x34#8].length)
    ∧ (0x81 : Byte).getLsbD 7 = true ∧ ((0x81 : Byte).extractLsb' 0 7).toNat < [0x55#8, 0x0A#8].length := by
  decide
theorem witness_OnlyTruncationIsRejected :
    decodeRecord [0x36, 0x02, 0x48] = .error .shortData ∧ decodeRecord [0x29, 0x80] = .error .noDelay
    ∧ decodeRecord [0x29, 0x00] = .ok (⟨0x29, [], none⟩, []) := by decide
theorem witness_RecordLengthRule :
    decodeRecord [0x11, 0x00] = .ok (⟨0x11, [], none⟩, [])
    ∧ decodeRecord (encodeRecord longest) = .ok (longest, []) ∧ longest.length = 130 := by
  refine ⟨by decide, ?_, by simp [longest, Record.length]⟩
  have h := decodeRecord_encodeRecord (r := longest) (by simp [longest, Record.wf]) []
  rwa [List.append_nil] at h
theorem witness_RecordsDecodeToTheirRow :
    payloadOk [0x00] = true ∧ payloadOk (List.replicate 127 0x00) = true
    ∧ (0xF0 : Byte) ≠ Config.default.opcPixfmt ∧ (0xF0 : Byte) ≠ Config.default.opcMadctl
    ∧ Config.default.opcMadctl ≠ Config.default.opcPixfmt := by
  refine ⟨by decide, by simp [payloadOk], by decide, by decide, by decide⟩

/-- The host's turns from reset to a run that stands before its command write. -/
def reopenTurns : List Turn := [.host ⟨0x01, [.bytes [0x11, 0x00]]⟩, .host ⟨0x02, []⟩, .block]

/-- A reset while request 1 is pending, and its answer while a new run's request 2 is. -/
theorem witness_ResetAbandonsTheRun :
    (withTurns (.reset :: reopenTurns) (waiting ⟨0x29, [], some 20⟩ .cmd (.cmd 0x29))).turns = .reset :: reopenTurns
    ∧ (waiting ⟨0x29, [], some 20⟩ .cmd (.cmd 0x29)).sentCount = 1
    ∧ after (runSteps 4 { State.reset with trace := [.sent (.cmd 0x29)], turns := reopenTurns ++ [.block, .answer 1 .ok] })
      (fun u => (u.turns, u.pending, u.sentCount)) = some (.answer 1 .ok :: [], some (.cmd 0x11), 2)
    ∧ (withTurns [.answer 1 .ok] State.reset).pending = none := by decide
theorem witness_IdleBlockDoesNothing :
    State.reset.busyOp = .idle ∧ State.reset.turns = []
    ∧ (withTurns [.block] State.reset).turns = .block :: [] := by decide
/-- The record ends where the script ends; with the block's turns listed and with none. -/
theorem witness_StepRunsTheRecordAtPtr :
    WellFormed Config.default (.cmdDelay 0x29 20) = true
    ∧ recordOf (opening [0x29, 0x80, 0x14]).cfg (.cmdDelay 0x29 20) = some ⟨0x29, [], some 20⟩
    ∧ (opening [0x29, 0x80, 0x14]).busyOp = .opening ∧ (opening [0x29, 0x80, 0x14]).stage = .fetch
    ∧ (opening [0x29, 0x80, 0x14]).ptr.toNat + Record.length ⟨0x29, [], some 20⟩
        ≤ (opening [0x29, 0x80, 0x14]).scriptLen.toNat
    ∧ (opening [0x29, 0x80, 0x14]).script.readBytes 0 3 = some (encodeRecord ⟨0x29, [], some 20⟩)
    ∧ (opening [0x29, 0x80, 0x14]).turns = []
    ∧ (withTurns [.block, .block] (opening [0x29, 0x80, 0x14])).turns = .block :: .block :: [] := by decide
theorem witness_StepGoesOnWithTheLatchedRecord :
    ∀ g ∈ [Stage.cmd, .data, .delay, .done],
      (inRecord ⟨0xB0, [0x12], some 5⟩ g).busyOp = .opening ∧ (inRecord ⟨0xB0, [0x12], some 5⟩ g).stage = g
      ∧ (inRecord ⟨0xB0, [0x12], some 5⟩ g).turns = []
      ∧ (waiting ⟨0xB0, [0x12], some 5⟩ g (.cmd 0xB0)).sentCount = 1
      ∧ (withTurns [.answer 1 .ok] (waiting ⟨0xB0, [0x12], some 5⟩ g (.cmd 0xB0))).pending ≠ none := by decide
theorem witness_StepRunsTheHostOperation :
    encode Config.default .commit = .request ⟨0x09, []⟩
    ∧ (withTurns [.host ⟨0x09, []⟩] cv3).turns = .host ⟨0x09, []⟩ :: [] := by decide
theorem witness_UnknownCodeIsOutOfRange :
    (HostReq.mk 0x00 []).code = 0 ∧ 0x0A < (HostReq.mk 0x0B []).code.toNat ∧ 0x0A < (HostReq.mk 0xFF []).code.toNat
    ∧ (withTurns [.host ⟨0x0B, []⟩] (opening [0x11, 0x00])).turns = .host ⟨0x0B, []⟩ :: [] := by decide

/-! Legal states. -/

theorem bitmaps_legal_reset : ∀ b ∈ State.reset.bitmaps, bitmapLegal Config.default b := by
  simp [State.reset, State.resetWith, Config.default]
theorem bitmaps_legal_cv3 : ∀ b ∈ cv3.bitmaps, bitmapLegal Config.default b := by
  simp [cv3, Config.default]
theorem bitmaps_legal_cv6 : ∀ b ∈ cv6.bitmaps, bitmapLegal Config.default b := by
  simp [cv6, Config.default, bitmapLegal]

/-- Idle, after a failed OPEN run. -/
def failedIdle : State := { loaded [0x11, 0x00] with session := .failed }

theorem legal_idle : failedIdle.Legal := by
  constructor
  case bitmapShapes => exact bitmaps_legal_reset
  case pendingSent => intro r h; cases h
  case openingRun => intro h; cases h
  case committingRun => intro h; cases h
  all_goals decide
theorem legal_cv3 : cv3.Legal := by
  constructor
  case bitmapShapes => exact bitmaps_legal_cv3
  case pendingSent => intro r h; cases h
  case openingRun => intro h; cases h
  case committingRun => intro h; cases h
  all_goals decide
theorem legal_opening : (opening [0x29, 0x80, 0x14]).Legal := by
  constructor
  case bitmapShapes => exact bitmaps_legal_reset
  case pendingSent => intro r h; cases h
  case openingRun => intro _; refine ⟨?_, ?_⟩ <;> decide
  case committingRun => intro h; cases h
  all_goals decide
theorem legal_opening_end : (opening []).Legal := by
  constructor
  case bitmapShapes => exact bitmaps_legal_reset
  case pendingSent => intro r h; cases h
  case openingRun => intro _; refine ⟨?_, ?_⟩ <;> decide
  case committingRun => intro h; cases h
  all_goals decide
theorem legal_waiting : (waiting ⟨0x29, [], some 20⟩ .cmd (.cmd 0x29)).Legal := by
  constructor
  case bitmapShapes => exact bitmaps_legal_reset
  case pendingSent => intro r h; cases h; decide
  case openingRun => intro _; refine ⟨?_, ?_⟩ <;> decide
  case committingRun => intro h; cases h
  all_goals decide
theorem legal_committing_cv3 : (committing cv3).Legal := by
  constructor
  case bitmapShapes => exact bitmaps_legal_cv3
  case pendingSent => intro r h; cases h
  case openingRun => intro h; cases h
  case committingRun => intro _; refine ⟨?_, ?_⟩ <;> decide
  all_goals decide
theorem legal_committing_cv6 : (committing cv6).Legal := by
  constructor
  case bitmapShapes => exact bitmaps_legal_cv6
  case pendingSent => intro r h; cases h
  case openingRun => intro h; cases h
  case committingRun => intro _; refine ⟨?_, ?_⟩ <;> decide
  all_goals decide
theorem legal_committing_cv3Chunks : (committing cv3Chunks).Legal := by
  constructor
  case bitmapShapes => exact bitmaps_legal_cv3
  case pendingSent => intro r h; cases h
  case openingRun => intro h; cases h
  case committingRun => intro _; refine ⟨?_, ?_⟩ <;> decide
  all_goals decide
theorem legal_resolving : resolving.Legal := by
  constructor
  case bitmapShapes => exact bitmaps_legal_cv3
  case pendingSent => intro r h; cases h
  case openingRun => intro h; cases h
  case committingRun => intro _; refine ⟨?_, ?_, ?_⟩ <;> decide
  all_goals decide
theorem legal_streaming : streaming.Legal := by
  constructor
  case bitmapShapes => exact bitmaps_legal_cv3
  case pendingSent => intro r h; cases h
  case openingRun => intro h; cases h
  case committingRun => intro _; refine ⟨?_, ?_, ?_, ?_⟩ <;> decide
  all_goals decide
theorem legal_chunkWaiting : chunkWaiting.Legal := by
  constructor
  case bitmapShapes => exact bitmaps_legal_cv3
  case pendingSent => intro r h; cases h; decide
  case openingRun => intro h; cases h
  case committingRun => intro _; refine ⟨?_, ?_, ?_, ?_⟩ <;> decide
  all_goals decide

theorem witness_UnansweredRequestWaits :
    (waiting ⟨0x29, [], some 20⟩ .cmd (.cmd 0x29)).Legal
    ∧ (waiting ⟨0x29, [], some 20⟩ .cmd (.cmd 0x29)).pending = some (.cmd 0x29)
    ∧ (waiting ⟨0x29, [], some 20⟩ .cmd (.cmd 0x29)).turns = [] :=
  ⟨legal_waiting, by decide, by decide⟩

/-! The records: at each stage a request to send, one that waits, and one answered each way. -/

/-- The hypotheses of the four parts of `requestStep`, each at its own state. -/
abbrev stageWitness (r : Record) (g : Stage) (q : TxReq) : Prop :=
  ((inRecord r g).stage = g ∧ (inRecord r g).pending = none)
  ∧ ((waiting r g q).stage = g ∧ (waiting r g q).pending ≠ none ∧ (waiting r g q).reply = none)
  ∧ ((answered r g q .ok).stage = g ∧ (answered r g q .ok).pending ≠ none ∧ (answered r g q .ok).reply = some .ok)
  ∧ (answered r g q .fail).stage = g ∧ (answered r g q .fail).pending ≠ none
    ∧ (answered r g q .fail).reply = some .fail ∧ (answered r g q .fail).busyOp = .opening

theorem witness_CmdSendsTheCommand :
    stageWitness ⟨0x11, [], none⟩ .cmd (.cmd 0x11) ∧ (inRecord ⟨0x11, [], none⟩ .done).stage = .done := by decide
theorem witness_CmdDelaySendsCommandThenDelay :
    stageWitness ⟨0x29, [], some 0⟩ .cmd (.cmd 0x29) ∧ stageWitness ⟨0x29, [], some 0⟩ .delay (.delay 0)
    ∧ (inRecord ⟨0x29, [], some 0⟩ .done).stage = .done := by decide
theorem witness_CmdDataSendsCommandThenData :
    payloadOk [0xC3#8] = true
    ∧ stageWitness ⟨0xF0, [0xC3], none⟩ .cmd (.cmd 0xF0) ∧ stageWitness ⟨0xF0, [0xC3], none⟩ .data (.data [0xC3])
    ∧ (inRecord ⟨0xF0, [0xC3], none⟩ .done).stage = .done := by decide
theorem witness_CmdDataDelaySendsCommandDataDelay :
    payloadOk [0x12#8, 0x34#8] = true
    ∧ stageWitness ⟨0xB0, [0x12, 0x34], some 5⟩ .cmd (.cmd 0xB0)
    ∧ stageWitness ⟨0xB0, [0x12, 0x34], some 5⟩ .data (.data [0x12, 0x34])
    ∧ stageWitness ⟨0xB0, [0x12, 0x34], some 5⟩ .delay (.delay 5)
    ∧ (inRecord ⟨0xB0, [0x12, 0x34], some 5⟩ .done).stage = .done := by decide
theorem witness_SnoopPixfmtCapturesTheFirstByte :
    stageWitness ⟨0x3A, [0x55], some 10⟩ .cmd (.cmd 0x3A) ∧ stageWitness ⟨0x3A, [0x55], some 10⟩ .data (.data [0x55])
    ∧ stageWitness ⟨0x3A, [0x55], some 10⟩ .delay (.delay 10)
    ∧ (inRecord ⟨0x3A, [0x55], some 10⟩ .done).stage = .done := by decide
theorem witness_SnoopMadctlCapturesTheFirstByte :
    stageWitness ⟨0x36, [0x48], some 10⟩ .cmd (.cmd 0x36) ∧ stageWitness ⟨0x36, [0x48], some 10⟩ .data (.data [0x48])
    ∧ stageWitness ⟨0x36, [0x48], some 10⟩ .delay (.delay 10)
    ∧ (inRecord ⟨0x36, [0x48], some 10⟩ .done).stage = .done := by decide
/-- An answer other than `ok` to recognised data, a stage other than completion, no failure. -/
theorem witness_RecordFrame :
    recordOf (inRecord ⟨0x3A, [0x55], none⟩ .data).cfg (.snoopPixfmt [0x55] none) = some ⟨0x3A, [0x55], none⟩
    ∧ (∃ t, exec (.snoopPixfmt [0x55] none) (inRecord ⟨0x3A, [0x55], none⟩ .data) = .next t)
    ∧ (∃ t, exec (.snoopPixfmt [0x55] none) (answered ⟨0x3A, [0x55], none⟩ .data (.data [0x55]) .fail) = .next t)
    ∧ ∃ t, exec (.snoopPixfmt [0x55] none) (inRecord ⟨0x3A, [0x55], none⟩ .done) = .next t :=
  ⟨by decide, ⟨_, rfl⟩, ⟨_, rfl⟩, ⟨_, rfl⟩⟩
theorem witness_EndOfScriptOpensTheSession :
    (opening []).busyOp = .opening ∧ (opening []).stage = .fetch ∧ (opening []).ptr = (opening []).scriptLen
    ∧ (withTurns [.block] (opening [])).turns = .block :: [] := by decide
/-- DV-6, DV-7, DV-8. -/
theorem witness_MalformedRecordEndsTheRun :
    ∀ c ∈ [([0x11], Truncation.noDescriptor), ([0x36, 0x02, 0x48], .shortData), ([0x29, 0x80], .noDelay)],
      (opening c.1).busyOp = .opening ∧ (opening c.1).stage = .fetch
      ∧ (opening c.1).ptr.toNat < (opening c.1).scriptLen.toNat
      ∧ (opening c.1).script.readBytes 0 (opening c.1).scriptLen.toNat = some c.1
      ∧ decodeRecord c.1 = .error c.2 := by decide

/-! The host operations, on an idle block, at the bounds of their arguments. -/

theorem witness_LoadScriptStoresTheBytes :
    State.reset.busyOp = .idle ∧ (List.replicate 1025 (0 : Byte)).length > State.reset.cfg.scriptMax
    ∧ (List.replicate 1024 (0 : Byte)).length ≤ State.reset.cfg.scriptMax ∧ State.reset.script.wf := by
  refine ⟨by decide, ?_, ?_, by decide⟩ <;> rw [List.length_replicate] <;> decide
theorem witness_OpenStartsTheRun : failedIdle.busyOp = .idle ∧ cv3.busyOp = .idle := by decide
theorem witness_CreatePaletteZeroFills :
    cv3.busyOp = .idle ∧ 4 ≥ cv3.cfg.numPalettes ∧ 257 > cv3.cfg.palMax ∧ 3 < cv3.cfg.numPalettes
    ∧ 256 ≤ cv3.cfg.palMax := by decide
theorem witness_WritePaletteWritesOneEntry :
    cv3.busyOp = .idle ∧ 4 ≥ cv3.cfg.numPalettes ∧ 4 ≥ palN cv3 0 ∧ 0 < cv3.cfg.numPalettes ∧ 3 < palN cv3 0 := by
  decide
theorem witness_CreateBitmapZeroFills :
    cv3.busyOp = .idle ∧ 4 ≥ cv3.cfg.numBitmaps ∧ 17 > cv3.cfg.bmpMaxW ∧ 17 > cv3.cfg.bmpMaxH
    ∧ 3 < cv3.cfg.numBitmaps ∧ 16 ≤ cv3.cfg.bmpMaxW ∧ 16 ≤ cv3.cfg.bmpMaxH := by decide
theorem witness_WriteCellWritesOneCell :
    cv3.busyOp = .idle ∧ 4 ≥ cv3.cfg.numBitmaps ∧ 2 ≥ bmpW cv3 0 ∧ 2 ≥ bmpH cv3 0 ∧ 256 ≥ 2 ^ cv3.cfg.indexBits
    ∧ 0 < cv3.cfg.numBitmaps ∧ 1 < bmpW cv3 0 ∧ 1 < bmpH cv3 0 ∧ 255 < 2 ^ cv3.cfg.indexBits ∧ cv3.Legal :=
  ⟨by decide, by decide, by decide, by decide, by decide, by decide, by decide, by decide, by decide, legal_cv3⟩
theorem witness_SetLayerWritesTheSlot :
    cv3.busyOp = .idle ∧ 4 ≥ cv3.cfg.maxLayers ∧ 4 ≥ cv3.cfg.numBitmaps ∧ 4 ≥ cv3.cfg.numPalettes
    ∧ ¬ ((32768 : Int) < 2 ^ (cv3.cfg.coordBits - 1)) ∧ ¬ (-(2 ^ (cv3.cfg.coordBits - 1)) ≤ (-32769 : Int))
    ∧ (2 ≠ 0 ∧ 2 ≠ 1)
    ∧ 3 < cv3.cfg.maxLayers ∧ 3 < cv3.cfg.numBitmaps ∧ 3 < cv3.cfg.numPalettes
    ∧ -(2 ^ (cv3.cfg.coordBits - 1)) ≤ (-32768 : Int) ∧ (-32768 : Int) < 2 ^ (cv3.cfg.coordBits - 1)
    ∧ -(2 ^ (cv3.cfg.coordBits - 1)) ≤ (32767 : Int) ∧ (32767 : Int) < 2 ^ (cv3.cfg.coordBits - 1)
    ∧ 0 = false.toNat ∧ 1 = true.toNat := by decide
theorem witness_SetLayerCountSetsTheStack :
    cv3.busyOp = .idle ∧ 5 > cv3.cfg.maxLayers ∧ 4 ≤ cv3.cfg.maxLayers := by decide
theorem witness_ReadRegGivesTheRegister : 12 < 13 ∧ 12 ≤ 12 ∧ 0 ≤ 12 := by decide
theorem witness_CommitStartsTheRun :
    State.reset.busyOp = .idle ∧ State.reset.session ≠ .opened ∧ failedIdle.session ≠ .opened
    ∧ cv3.busyOp = .idle ∧ cv3.session = .opened := by decide
theorem witness_BusyRejectsAllButReadReg :
    isRecord .commit = false ∧ (∀ r, Instr.commit ≠ .readReg r) ∧ (opening []).busyOp ≠ .idle
    ∧ (committing cv3).busyOp ≠ .idle := by
  refine ⟨by decide, fun r h => ?_, by decide, by decide⟩
  cases h
/-- An accepted operation, and one that is not. -/
theorem witness_RejectedOperationChangesNothing :
    isRecord (.setLayerCount 5) = false ∧ answerOf (.setLayerCount 5) cv3 = some ⟨.argRange, 0⟩
    ∧ answerOf (.setLayerCount 4) cv3 = some ⟨.accepted, 0⟩ := by decide
theorem witness_HostOperationFrame :
    isRecord .commit = false ∧ (∃ t, exec .commit cv3 = .next t) ∧ Instr.commit ≠ .openSession
    ∧ (∀ bs, Instr.commit ≠ .loadScript bs) ∧ (∀ p n, Instr.commit ≠ .createPalette p n)
    ∧ (∀ p j c, Instr.commit ≠ .writePalette p j c) ∧ (∀ b w h, Instr.commit ≠ .createBitmap b w h)
    ∧ (∀ b x y v, Instr.commit ≠ .writeCell b x y v) ∧ (∀ k b p x y v, Instr.commit ≠ .setLayer k b p x y v)
    ∧ ∀ n, Instr.commit ≠ .setLayerCount n := by
  refine ⟨by decide, ⟨_, rfl⟩, by decide, ?_, ?_, ?_, ?_, ?_, ?_, ?_⟩ <;> intros <;> simp

/-! The Packer, the Resolver and the frame stream. -/

theorem witness_FrameBytesHoldEachPixel : 1 < [0xF800#16, 0x001F#16].length := by decide
/-- CV-3's uncovered cell (0, 0); CV-6's cell (3, 1) under an invisible slot. -/
theorem witness_ResolveTakesTheTopmost :
    (∀ l ∈ stack cv3, ¬ (l.visible = true ∧ l.x0 ≤ (0 : Nat) ∧ ((0 : Nat) : Int) < l.x0 + bmpW cv3 l.bmp
      ∧ l.y0 ≤ (0 : Nat) ∧ ((0 : Nat) : Int) < l.y0 + bmpH cv3 l.bmp))
    ∧ stack cv6 = [] ++ ⟨0, 0, 0, 0, true⟩ :: [⟨1, 1, -1, 1, false⟩]
    ∧ ((0 : Int) ≤ (3 : Nat) ∧ ((3 : Nat) : Int) < 0 + bmpW cv6 0 ∧ (0 : Int) ≤ (1 : Nat)
      ∧ ((1 : Nat) : Int) < 0 + bmpH cv6 0)
    ∧ bmpRead? cv6 0 3 1 = some 1 ∧ palRead? cv6 0 1 = some 0xFF0000 := by decide
theorem witness_ValidationFindsTheFirstInvalidCell :
    (committing cv3).Legal ∧ firstInvalid (committing cv3) = none
    ∧ (committing cv6).Legal ∧ firstInvalid (committing cv6) = some ⟨1, 1, 1, 5⟩ :=
  ⟨legal_committing_cv3, by decide, legal_committing_cv6, by decide⟩
theorem witness_InvalidIndexSendsNothing :
    (withTurns [.block] (committing cv6)).Legal ∧ (committing cv6).busyOp = .committing
    ∧ (committing cv6).stage = .validate ∧ firstInvalid (committing cv6) = some ⟨1, 1, 1, 5⟩
    ∧ (withTurns [.block] (committing cv6)).turns = .block :: [] :=
  ⟨legal_committing_cv6.withTurns _, by decide, by decide, by decide, by decide⟩
theorem witness_FrameInRasterOrder :
    (withTurns [.block] (committing cv3)).Legal ∧ (committing cv3).busyOp = .committing
    ∧ (committing cv3).stage = .validate ∧ firstInvalid (committing cv3) = none
    ∧ (withTurns [.block] resolving).Legal ∧ resolving.busyOp = .committing ∧ resolving.stage = .resolve
    ∧ (withTurns [.block] resolving).turns = .block :: [] ∧ 3 < cv3.cfg.frameW ∧ 1 < cv3.cfg.frameH :=
  ⟨legal_committing_cv3.withTurns _, by decide, by decide, by decide, legal_resolving.withTurns _, by decide,
    by decide, by decide, by decide, by decide⟩
theorem witness_EmptyStackIsBackground : State.reset.layerCount = 0 := by decide
theorem witness_ChunksPartitionTheFrame :
    Config.default.wf = true ∧ 7 < Config.default.framePixels ∧ Config.default.chunking = .perRow
    ∧ cv3Chunks.cfg.wf = true ∧ cv3Chunks.cfg.chunking = .endsAt [3, 8] ∧ 7 < cv3Chunks.cfg.framePixels
    ∧ 8 ∈ [3, 8] ∧ 7 < 8 := by decide
theorem witness_StreamSendsTheNextChunk :
    (withTurns [.block] streaming).Legal ∧ streaming.busyOp = .committing ∧ streaming.stage = .stream
    ∧ streaming.chunkPos < streaming.cfg.framePixels ∧ streaming.pending = none
    ∧ (withTurns [.answer 1 .ok] chunkWaiting).Legal ∧ (withTurns [.answer 1 .fail] chunkWaiting).Legal
    ∧ chunkWaiting.sentCount = 1
    ∧ chunkWaiting.busyOp = .committing ∧ chunkWaiting.stage = .stream
    ∧ chunkWaiting.chunkPos < chunkWaiting.cfg.framePixels ∧ chunkWaiting.pending ≠ none :=
  ⟨legal_streaming.withTurns _, by decide, by decide, by decide, by decide, legal_chunkWaiting.withTurns _,
    legal_chunkWaiting.withTurns _, by decide, by decide, by decide, by decide, by decide⟩
theorem witness_StreamEndsWithTheFrame :
    (withTurns [.block] (chunkSent 8 streaming)).busyOp = .committing
    ∧ (chunkSent 8 streaming).stage = .stream
    ∧ (chunkSent 8 streaming).chunkPos = (chunkSent 8 streaming).cfg.framePixels
    ∧ (withTurns [.block] (chunkSent 8 streaming)).turns = .block :: [] := by decide

/-! Whole runs and invariants. -/

theorem witness_OpenRunReplaysTheScript :
    openStart scriptS (withTurns (scriptTurns 0 recordsS ++ [.block]) (opening scriptS))
    ∧ (opening scriptS).sentCount = 0
    ∧ decodeScript scriptS = .ok recordsS := by
  unfold openStart
  decide
/-- P4: the data write of record 1 fails. -/
theorem witness_TransportFailureHaltsTheScript :
    (∀ q ∈ [Record.mk 0x11 [] none], q.wf = true) ∧ Record.wf ⟨0x36, [0x48], none⟩ = true
    ∧ openStart (encodeScript [⟨0x11, [], none⟩] ++ encodeRecord ⟨0x36, [0x48], none⟩
        ++ encodeScript [⟨0x29, [], some 20⟩])
      (withTurns (scriptTurns 0 [⟨0x11, [], none⟩] ++ .block :: (okTurns 1 1 ++ [.block, .answer 3 .fail]))
        (opening [0x11, 0x00, 0x36, 0x01, 0x48, 0x29, 0x80, 0x14]))
    ∧ 1 < (recordRequests ⟨0x36, [0x48], none⟩).length := by
  unfold openStart
  decide
/-- DV-10. -/
theorem witness_MalformedScriptSendsThePrefix :
    (∀ q ∈ [Record.mk 0x11 [] (some 120), ⟨0x3A, [0x55], none⟩], q.wf = true)
    ∧ [0x36#8, 0x03#8, 0x48#8, 0x00#8] ≠ [] ∧ decodeRecord [0x36, 0x03, 0x48, 0x00] = .error .shortData
    ∧ openStart (encodeScript [⟨0x11, [], some 120⟩, ⟨0x3A, [0x55], none⟩] ++ [0x36, 0x03, 0x48, 0x00])
      (withTurns (scriptTurns 0 [⟨0x11, [], some 120⟩, ⟨0x3A, [0x55], none⟩] ++ [.block])
        (opening [0x11, 0x80, 0x78, 0x3A, 0x01, 0x55, 0x36, 0x03, 0x48, 0x00])) := by
  unfold openStart
  decide
/-- With the default chunking and with another. -/
theorem witness_CommitStreamsTheWholeFrame :
    (committing cv3).Legal ∧ (committing cv3).busyOp = .committing ∧ (committing cv3).stage = .validate
    ∧ firstInvalid (committing cv3) = none ∧ (committing cv3).cfg.chunking = .perRow
    ∧ (committing cv3Chunks).Legal ∧ (committing cv3Chunks).busyOp = .committing
    ∧ (committing cv3Chunks).stage = .validate ∧ firstInvalid (committing cv3Chunks) = none
    ∧ (committing cv3Chunks).cfg.chunking = .endsAt [3, 8] :=
  ⟨legal_committing_cv3, by decide, by decide, by decide, by decide, legal_committing_cv3Chunks, by decide,
    by decide, by decide, by decide⟩
theorem witness_StepKeepsLegal :
    (committing cv3).Legal ∧ (∃ t, step (committing cv3) = .next t)
    ∧ (opening [0x29, 0x80, 0x14]).Legal ∧ ∃ t, step (opening [0x29, 0x80, 0x14]) = .next t :=
  ⟨legal_committing_cv3, ⟨_, rfl⟩, legal_opening, ⟨_, rfl⟩⟩
theorem witness_ResetIsLegal : Config.default.wf = true := by decide
theorem witness_LegalStateNeverStops : chunkWaiting.Legal ∧ (opening []).Legal :=
  ⟨legal_chunkWaiting, legal_opening_end⟩
/-- To closed by a reset and by `OPEN`, to open at the end of a script. -/
theorem witness_SessionTransitions :
    (withTurns [.reset] cv3).Legal ∧ after (step (withTurns [.reset] cv3)) (fun t => t.session) = some .closed
    ∧ (withTurns [.host ⟨0x02, []⟩] cv3).Legal
    ∧ after (step (withTurns [.host ⟨0x02, []⟩] cv3)) (fun t => t.session) = some .closed
    ∧ (opening []).Legal ∧ after (step (opening [])) (fun t => t.session) = some .opened
    ∧ (withTurns [.answer 1 .fail] (waiting ⟨0x29, [], some 20⟩ .cmd (.cmd 0x29))).Legal
    ∧ after (step (withTurns [.answer 1 .fail] (waiting ⟨0x29, [], some 20⟩ .cmd (.cmd 0x29)))) (fun t => t.session)
      = some .failed :=
  ⟨legal_cv3.withTurns _, by decide, legal_cv3.withTurns _, by decide, legal_opening_end, by decide,
    legal_waiting.withTurns _, by decide⟩
theorem witness_OneRequestAtATime :
    (∃ t, step streaming = .next t) ∧ ∃ t, step (withTurns [.answer 1 .ok] chunkWaiting) = .next t :=
  ⟨⟨_, rfl⟩, ⟨_, rfl⟩⟩
theorem witness_CommitSendsDataOnly :
    streaming.busyOp = .committing
    ∧ after (step streaming) (fun t => t.trace)
      = some (streaming.trace ++ [.sent (.data [0x00, 0x00, 0xF8, 0x00, 0x07, 0xE0, 0x00, 0x00])]) := by decide
theorem witness_MemoriesAreFixedDuringARun :
    streaming.busyOp ≠ .idle ∧ (∃ t, step streaming = .next t) ∧ ∀ ts, streaming.turns ≠ .reset :: ts :=
  ⟨by decide, ⟨_, rfl⟩, fun ts h => by cases h⟩

end Sys2Proof.Tests
end

/-! PROOF. A block that waits for an answer (10_state.md R41, 60_exceptions.md R257): where a legal run can
wait, and that its step there changes nothing. -/

namespace Sys2Proof.Machine

/-! ### Where a legal run can wait -/

/-- The stages of an OPEN run that have a request. -/
theorem openLegal_waiting {s : State} (h : openLegal s) (hp : s.pending ≠ none) :
    s.stage = .cmd ∨ (s.stage = .data ∧ s.latch.dbuf ≠ []) ∨ (s.stage = .delay ∧ s.latch.dflag = true) := by
  unfold openLegal at h
  match hs : s.stage with
  | .cmd => exact .inl rfl
  | .data =>
    simp only [hs] at h
    obtain ⟨-, hdata, -⟩ := h
    exact .inr (.inl ⟨rfl, hdata⟩)
  | .delay =>
    simp only [hs] at h
    obtain ⟨-, hdelay, -⟩ := h
    exact .inr (.inr ⟨rfl, hdelay⟩)
  | .fetch =>
    simp only [hs] at h
    exact absurd h.1 hp
  | .done =>
    simp only [hs] at h
    exact absurd h.2 hp
  | .validate | .resolve | .stream => simp only [hs] at h

/-- A COMMIT run waits in the stream phase alone, before the end of its stored frame. -/
theorem commitLegal_waiting {s : State} (h : commitLegal s) (hp : s.pending ≠ none) :
    s.stage = .stream ∧ s.chunkPos < s.cfg.framePixels ∧ s.frame.length = s.cfg.framePixels := by
  unfold commitLegal at h
  match hs : s.stage with
  | .stream =>
    simp only [hs] at h
    obtain ⟨hframe, -, -, hnone | ⟨hpos, -⟩⟩ := h
    · exact absurd hnone hp
    · exact ⟨rfl, hpos, hframe⟩
  | .validate | .resolve =>
    simp only [hs] at h
    exact absurd h.1 hp
  | .fetch | .cmd | .data | .delay | .done => simp only [hs] at h

/-- No chunk reaches beyond the frame (42_compositor.md R177). -/
theorem chunkEnd_le_framePixels {c : Config} {pos : Nat} (h : pos < c.framePixels) :
    chunkEnd c pos ≤ c.framePixels := by
  unfold chunkEnd
  split
  · have hrow : pos / c.frameW < c.frameH := Nat.div_lt_of_lt_mul h
    calc (pos / c.frameW + 1) * c.frameW ≤ c.frameH * c.frameW := Nat.mul_le_mul_right _ hrow
      _ = c.framePixels := Nat.mul_comm ..
  · split
    · exact Nat.min_le_right ..
    · exact Nat.le_refl _

/-! ### The step of a waiting block -/

theorem openStep_waits {s : State} (h : openLegal s) (hp : s.pending ≠ none) (hr : s.reply = none) :
    openStep s = .next s := by
  obtain hs | ⟨hs, hdata⟩ | ⟨hs, hflag⟩ := openLegal_waiting h hp
  · rw [openStep_latched (.inl hs), runRecord_cmd hs, transact_waits hp hr]
  · rw [openStep_latched (.inr (.inl hs)), runRecord_data hs hdata, transact_waits hp hr]
  · have hdelay : s.latch.record.delay = some s.latch.dms := if_pos hflag
    rw [openStep_latched (.inr (.inr (.inl hs))), runRecord_delay hs hdelay, transact_waits hp hr]

theorem commitStep_waits {s : State} (h : commitLegal s) (hp : s.pending ≠ none) (hr : s.reply = none) :
    commitStep s = .next s := by
  obtain ⟨hs, hpos, hframe⟩ := commitLegal_waiting h hp
  have hend : chunkEnd s.cfg s.chunkPos ≤ s.frame.length := hframe ▸ chunkEnd_le_framePixels hpos
  rw [commitStep_stream hs, streamChunk_chunk hpos hend, transact_waits hp hr]

theorem State.Legal.blockStep_waits {s : State} (h : s.Legal) (hp : s.pending ≠ none) :
    blockStep s = .next s := by
  match hb : s.busyOp with
  | .idle => exact blockStep_idle hb
  | .opening => rw [blockStep_opening hb, openStep_waits (h.openingRun hb) hp h.replyTaken]
  | .committing => rw [blockStep_committing hb, commitStep_waits (h.committingRun hb) hp h.replyTaken]

/-- Settles O16: the reply line of a legal state is empty, and the block is at a stage that has the pending
request, where a request without an answer waits. -/
theorem unansweredRequestWaits : Obligations.UnansweredRequestWaits := by
  intro s r h hr
  have hp : s.pending ≠ none := by simp [hr]
  refine ⟨fun ht => ?_, fun ts ht => ?_⟩
  · rw [step_noTurn ht, h.blockStep_waits hp]
  · rw [step_block ht, (h.withTurns ts).blockStep_waits hp]

end Sys2Proof.Machine

/-! PROOF. What a block step of a record does at a request of the record, whichever of its formats it has
(40_script_records.md R113 to R116), and what a record leaves unchanged. -/

namespace Sys2Proof.Machine

open Host (Outcome)

/-! ### The requests of a record and their stages -/

/-- The stage at which a record sends the request `q`. -/
def requestStage : TxReq → Stage
  | .cmd _ => .cmd
  | .data _ => .data
  | .delay _ => .delay

theorem requestStage_ne_done (q : TxReq) : requestStage q ≠ .done := by
  cases q <;> exact Stage.noConfusion

/-- The stage of a record whose requests `left` are still to be sent. -/
def stageBefore : List TxReq → Stage
  | [] => .done
  | q :: _ => requestStage q

/-- How a record with `opcode` goes on after `ok` to its request `q`: the data are captured, and the next
stage is `g`. -/
def afterRequest (opcode : Byte) (q : TxReq) (g : Stage) (s : State) : State :=
  match q with
  | .cmd _ => goTo g s
  | .data bs => goTo g (capture opcode bs s)
  | .delay _ => goTo g s

/-- A capture changes the four capture registers alone. -/
theorem capture_frame (opcode : Byte) (data : List Byte) (s : State) :
    ∃ pixfmt pixfmtValid madctl madctlValid, capture opcode data s = { s with
      cfgPixfmt := pixfmt, cfgPixfmtValid := pixfmtValid
      cfgMadctl := madctl, cfgMadctlValid := madctlValid } := by
  cases data with
  | nil => exact ⟨_, _, _, _, rfl⟩
  | cons b bs => exact ⟨_, _, _, _, capture_eq opcode b bs s⟩

/-- After `ok` to a request only the stage and the capture registers change. -/
theorem afterRequest_frame (opcode : Byte) (q : TxReq) (g : Stage) (s : State) :
    ∃ pixfmt pixfmtValid madctl madctlValid, afterRequest opcode q g s = { s with
      stage := g
      cfgPixfmt := pixfmt, cfgPixfmtValid := pixfmtValid
      cfgMadctl := madctl, cfgMadctlValid := madctlValid } := by
  cases q with
  | cmd b => exact ⟨_, _, _, _, rfl⟩
  | delay ms => exact ⟨_, _, _, _, rfl⟩
  | data bs =>
    obtain ⟨pixfmt, pixfmtValid, madctl, madctlValid, h⟩ := capture_frame opcode bs s
    exact ⟨pixfmt, pixfmtValid, madctl, madctlValid, by simp only [afterRequest, h]; rfl⟩

/-- A block step of a record is the step of one of its requests, or completes it. -/
theorem runRecord_request_cases {r : Record} {s t : State} (h : runRecord r s = .next t) :
    (∃ q g, s.stage = requestStage q ∧ q ≠ .data []
      ∧ t = transact q (recordError (failedField q) s) (afterRequest r.opcode q g) s)
    ∨ s.stage = .done ∧ t = completeRecord r.length s := by
  obtain ⟨hs, ht⟩ | ⟨hs, hd, ht⟩ | ⟨ms, hs, -, ht⟩ | hdone := runRecord_cases h
  · exact .inl ⟨.cmd r.opcode, _, hs, TxReq.noConfusion, ht⟩
  · exact .inl ⟨.data r.data, _, hs, by simpa using hd, ht⟩
  · exact .inl ⟨.delay ms, _, hs, TxReq.noConfusion, ht⟩
  · exact .inr hdone

/-- Where the requests `q :: left` of a record are still to be sent, its block step is that of `q`, after
which `left` is to be sent. -/
theorem runRecord_request {r : Record} {s : State} {q : TxReq} {left : List TxReq}
    (hsuffix : (q :: left) <:+ recordRequests r) (hs : s.stage = requestStage q) :
    runRecord r s = .next (transact q (recordError (failedField q) s)
      (afterRequest r.opcode q (stageBefore left)) s) := by
  obtain ⟨opcode, data, delay⟩ := r
  cases data <;> cases delay <;>
    simp only [recordRequests, List.suffix_cons_iff, List.cons.injEq, List.nil_append, List.append_nil,
      List.cons_append, List.suffix_nil, reduceCtorEq, or_false] at hsuffix
  case nil.none =>
    obtain ⟨rfl, rfl⟩ := hsuffix
    exact runRecord_cmd hs _
  case nil.some ms =>
    obtain ⟨rfl, rfl⟩ | ⟨rfl, rfl⟩ := hsuffix
    · exact runRecord_cmd hs _
    · exact runRecord_delay hs rfl
  case cons.none b bs =>
    obtain ⟨rfl, rfl⟩ | ⟨rfl, rfl⟩ := hsuffix
    · exact runRecord_cmd hs _
    · exact runRecord_data hs (List.cons_ne_nil b bs)
  case cons.some b bs ms =>
    obtain ⟨rfl, rfl⟩ | ⟨rfl, rfl⟩ | ⟨rfl, rfl⟩ := hsuffix
    · exact runRecord_cmd hs _
    · exact runRecord_data hs (List.cons_ne_nil b bs)
    · exact runRecord_delay hs rfl

/-! ### The frame of a record -/

/-- Settles O23: by what a record's step does, its completion, or the sending of a request, the wait for its
answer, and the two answers. -/
theorem recordFrame : Obligations.RecordFrame := by
  intro i r s t hi ht
  rw [exec_recordOf hi] at ht
  obtain ⟨q, g, hs, hq, rfl⟩ | ⟨hs, rfl⟩ := runRecord_request_cases ht
  · have hne := requestStage_ne_done q
    obtain ⟨hp, h⟩ | ⟨hp, hr, h⟩ | ⟨hp, hr, h⟩ | ⟨hp, hr, h⟩ :=
      transact_cases q (recordError (failedField q) s) (afterRequest r.opcode q g) s <;> rw [h]
    · simp [hp, hs, hne]
    · simp
    · match q with
      | .cmd b => simp [afterRequest, hp, hr, hs, requestStage]
      | .data [] => exact absurd rfl hq
      | .data (b :: bs) =>
        simp only [afterRequest, capture_eq]
        simp +contextual [hr, hs, requestStage]
      | .delay ms => simp [afterRequest, hp, hr, hs, requestStage]
    · simp [hp, hr, hs, hne]
  · simp [hs]

end Sys2Proof.Machine

/-! PROOF. An OPEN run through its script (40_script_records.md R111, R123): where it stands after some
records and some requests of the next one, and what each turn makes of that. -/

namespace Sys2Proof.Machine

open Host (Outcome)

/-! ### Many steps -/

theorem runSteps_cons {s t : State} (h : step s = .next t) (n : Nat) : runSteps (n + 1) s = runSteps n t := by
  simp only [runSteps, Host.Core.run]
  rw [show Sys2Proof.core.step s = .next t from h]

theorem runSteps_one (s : State) : runSteps 1 s = step s := by
  simp only [runSteps, Host.Core.run]
  cases h : Sys2Proof.core.step s <;> exact h.symm

theorem runSteps_add {s t : State} {n : Nat} (h : runSteps n s = .next t) (m : Nat) :
    runSteps (n + m) s = runSteps m t := by
  induction n generalizing s with
  | zero =>
    obtain rfl : s = t := Outcome.next.inj h
    rw [Nat.zero_add]
  | succ n ih =>
    match hu : step s with
    | .next u =>
      rw [runSteps_cons hu] at h
      rw [Nat.add_right_comm, runSteps_cons hu, ih h]
    | .fault f =>
      simp only [runSteps, Host.Core.run, show Sys2Proof.core.step s = .fault f from hu, reduceCtorEq] at h
    | .refused f =>
      simp only [runSteps, Host.Core.run, show Sys2Proof.core.step s = .refused f from hu, reduceCtorEq] at h

/-! ### The lists of records, requests and events -/

theorem encodeScript_append (xs ys : List Record) :
    encodeScript (xs ++ ys) = encodeScript xs ++ encodeScript ys := by
  induction xs with
  | nil => rfl
  | cons x xs ih => simp [encodeScript, ih]

@[simp] theorem encodeScript_singleton (r : Record) : encodeScript [r] = encodeRecord r := List.append_nil _

theorem scriptRequests_append (xs ys : List Record) :
    scriptRequests (xs ++ ys) = scriptRequests xs ++ scriptRequests ys := by
  induction xs with
  | nil => rfl
  | cons x xs ih => simp [scriptRequests, ih]

@[simp] theorem scriptRequests_singleton (r : Record) : scriptRequests [r] = recordRequests r :=
  List.append_nil _

theorem answeredOk_append (xs ys : List TxReq) : answeredOk (xs ++ ys) = answeredOk xs ++ answeredOk ys := by
  induction xs with
  | nil => rfl
  | cons x xs ih => simp [answeredOk, ih]

/-- A trace of answered requests holds each of them once. -/
theorem countP_isSent_answeredOk (qs : List TxReq) :
    (answeredOk qs).countP TraceEvent.isSent = qs.length := by
  induction qs with
  | nil => rfl
  | cons q qs ih =>
    rw [answeredOk, List.countP_cons_of_pos rfl, List.countP_cons_of_neg Bool.false_ne_true, ih,
      List.length_cons]

/-- A record is at least two bytes (30_encoding.md R94). -/
theorem two_mul_length_le_encodeScript (rs : List Record) : 2 * rs.length ≤ (encodeScript rs).length := by
  induction rs with
  | nil => exact Nat.le_refl _
  | cons r rs ih =>
    simp only [encodeScript, List.length_cons, List.length_append, encodeRecord_length, Record.length_eq]
    omega

/-- A register that does not wrap. -/
theorem toNat_add_ofNat {w n : Nat} {x : BitVec w} (h : x.toNat + n < 2 ^ w) :
    (x + BitVec.ofNat w n).toNat = x.toNat + n := by
  rw [BitVec.toNat_add, BitVec.toNat_ofNat, Nat.add_mod_mod, Nat.mod_eq_of_lt h]

/-! ### Where a run stands -/

/-- The run that `s₀` starts has completed the records `before` and the requests `sent` of the next one, all
answered `ok`, and stands in `s` at stage `g`, nothing pending, with the turns `ts` to come. -/
structure RunAt (s₀ : State) (before : List Record) (sent : List TxReq) (g : Stage) (ts : List Turn)
    (s : State) : Prop where
  opening : s.busyOp = .opening
  stage : s.stage = g
  pending : s.pending = none
  reply : s.reply = none
  script : s.script = s₀.script
  scriptLen : s.scriptLen = s₀.scriptLen
  ptr : s.ptr.toNat = (encodeScript before).length
  recIdx : s.recIdx.toNat = before.length
  recDone : s.recDone.toNat = before.length
  trace : s.trace = s₀.trace ++ answeredOk (scriptRequests before ++ sent)
  turns : s.turns = ts

/-- The script in memory is `bytes`. -/
abbrev scriptIs (bytes : List Byte) (s : State) : Prop := s.script.readBytes 0 s.scriptLen.toNat = some bytes

theorem openStart.runAt {bytes : List Byte} {s : State} (h : openStart bytes s) :
    RunAt s [] [] .fetch s.turns s := by
  obtain ⟨hopening, hstage, hpending, hreply, hptr, hidx, hdone, -⟩ := h
  exact ⟨hopening, hstage, hpending, hreply, rfl, rfl, by simp [hptr, encodeScript], by simp [hidx],
    by simp [hdone], (List.append_nil _).symm, rfl⟩

/-- The bytes of the script an OPEN run started over. -/
theorem openStart.scriptIs {bytes : List Byte} {s : State} (h : openStart bytes s) : scriptIs bytes s := by
  obtain ⟨-, -, -, -, -, -, -, hbytes⟩ := h
  exact hbytes

section
variable {s₀ s : State} {before : List Record} {sent : List TxReq} {g : Stage} {ts : List Turn}

theorem RunAt.sentCount (h : RunAt s₀ before sent g ts s) :
    s.sentCount = s₀.sentCount + (scriptRequests before ++ sent).length := by
  rw [State.sentCount, h.trace, List.countP_append, countP_isSent_answeredOk, State.sentCount]

/-- The next record of the script stands whole at `PTR`. -/
theorem RunAt.recordAtPtr (h : RunAt s₀ before sent g ts s) {r : Record} {tail : List Byte}
    (hscript : scriptIs (encodeScript before ++ encodeRecord r ++ tail) s₀) :
    s.ptr.toNat + r.length ≤ s.scriptLen.toNat
    ∧ s.script.readBytes s.ptr.toNat r.length = some (encodeRecord r) := by
  have hlen := Memory.readBytes_length hscript
  simp only [List.length_append, encodeRecord_length] at hlen
  have hfit : (encodeScript before).length + r.length ≤ s₀.scriptLen.toNat := by omega
  refine ⟨by rw [h.ptr, h.scriptLen]; exact hfit, ?_⟩
  have hread := Memory.readBytes_part hscript hfit
  rw [Nat.zero_add] at hread
  rw [h.script, h.ptr, hread, List.append_assoc, List.drop_left, ← encodeRecord_length r, List.take_left]

theorem RunAt.step_block (h : RunAt s₀ before sent g (.block :: ts) s) :
    step s = openStep { s with turns := ts } :=
  (Machine.step_block h.turns).trans (blockStep_opening h.opening)

theorem RunAt.nextTurn {turn : Turn} (h : RunAt s₀ before sent g (turn :: ts) s) :
    RunAt s₀ before sent g ts { s with turns := ts } :=
  { h with turns := rfl }

/-! ### The turns of one record -/

/-- The block's turn before a record decodes it (R112). -/
theorem RunAt.decodes (h : RunAt s₀ before [] .fetch (.block :: ts) s) {r : Record} (hw : r.wf = true)
    {tail : List Byte}
    (hscript : scriptIs (encodeScript before ++ encodeRecord r ++ tail) s₀) :
    ∃ t, step s = .next t ∧ RunAt s₀ before [] .cmd ts t ∧ t.latch.record = r := by
  obtain ⟨hfit, hread⟩ := h.recordAtPtr hscript
  refine ⟨latchRecord (encodeRecord r) { s with turns := ts },
    h.step_block.trans (openStep_record hw h.stage hfit hread),
    ⟨h.opening, rfl, h.pending, h.reply, h.script, h.scriptLen, h.ptr, h.recIdx, h.recDone, h.trace, rfl⟩, ?_⟩
  rw [latchRecord_latch, latchBytes_encodeRecord hw, latch_record]

/-- `s` with its request `q` sent, as the answer `a` to it is taken, the turns `ts` to come. -/
def takingAnswer (q : TxReq) (a : Answer) (ts : List Turn) (s : State) : State :=
  { issue q s with turns := ts, reply := some a }

/-- The block step of an OPEN run at the request `q` of its record. -/
theorem openStep_request {s : State} {q : TxReq} {left : List TxReq} (hs : s.stage = requestStage q)
    (hsuffix : (q :: left) <:+ recordRequests s.latch.record) :
    openStep s = .next (transact q (recordError (failedField q) s)
      (afterRequest s.latch.record.opcode q (stageBefore left)) s) := by
  have hlatched : s.stage = .cmd ∨ s.stage = .data ∨ s.stage = .delay ∨ s.stage = .done := by
    rw [hs]
    cases q <;> simp [requestStage]
  rw [openStep_latched hlatched, runRecord_request hsuffix hs]

/-- The block's turn sends the next request of the record, and the transport's turn takes the answer. -/
theorem RunAt.request {q : TxReq} {left : List TxReq} {a : Answer}
    (h : RunAt s₀ before sent (requestStage q) (.block :: .answer (s.sentCount + 1) a :: ts) s)
    (hsuffix : (q :: left) <:+ recordRequests s.latch.record) :
    runSteps 2 s = .next (transact q (recordError (failedField q) s)
      (afterRequest s.latch.record.opcode q (stageBefore left)) (takingAnswer q a ts s)) := by
  have hsend : step s = .next (issue q { s with turns := .answer (s.sentCount + 1) a :: ts }) := by
    rw [h.step_block, openStep_request h.nextTurn.stage hsuffix, transact_issues h.nextTurn.pending]
  have htake : step (issue q { s with turns := .answer (s.sentCount + 1) a :: ts }) =
      blockStep (takingAnswer q a ts s) :=
    step_answer (by rw [issue_sentCount]; rfl) (Option.some_ne_none q)
  calc runSteps 2 s = blockStep (takingAnswer q a ts s) := by rw [runSteps_cons hsend, runSteps_one, htake]
    _ = openStep (takingAnswer q a ts s) := blockStep_opening h.opening
    _ = _ := openStep_request (s := takingAnswer q a ts s) h.stage hsuffix

/-- After `ok` the run goes on to the next request of the record, or to its completion. -/
theorem RunAt.request_ok {r : Record} {q : TxReq} {left : List TxReq}
    (h : RunAt s₀ before sent (requestStage q) (.block :: .answer (s.sentCount + 1) .ok :: ts) s)
    (hr : s.latch.record = r) (hsuffix : (q :: left) <:+ recordRequests r) :
    ∃ t, runSteps 2 s = .next t ∧ RunAt s₀ before (sent ++ [q]) (stageBefore left) ts t
      ∧ t.latch.record = r := by
  subst hr
  obtain ⟨_, _, _, _, hafter⟩ := afterRequest_frame s.latch.record.opcode q (stageBefore left)
    (acknowledge .ok (takingAnswer q .ok ts s))
  rw [h.request hsuffix, transact_ok (Option.some_ne_none q) rfl, hafter]
  refine ⟨_, rfl, ⟨h.opening, rfl, rfl, rfl, h.script, h.scriptLen, h.ptr, h.recIdx, h.recDone, ?_, rfl⟩, rfl⟩
  simp [takingAnswer, h.trace, answeredOk_append, answeredOk]

/-- After `fail` the run has ended. -/
theorem RunAt.request_fail {q : TxReq} {left : List TxReq}
    (h : RunAt s₀ before sent (requestStage q) (.block :: .answer (s.sentCount + 1) .fail :: ts) s)
    (hsuffix : (q :: left) <:+ recordRequests s.latch.record) :
    runSteps 2 s = .next
      (raise (recordError (failedField q) s) (acknowledge .fail (takingAnswer q .fail ts s))) := by
  rw [h.request hsuffix, transact_fail (Option.some_ne_none q) rfl]

/-- The turns in which some requests of the record are answered `ok`. -/
theorem RunAt.requests_ok {r : Record} {reqs left : List TxReq}
    (h : RunAt s₀ before sent (stageBefore (reqs ++ left)) (okTurns s.sentCount reqs.length ++ ts) s)
    (hr : s.latch.record = r) (hsuffix : (reqs ++ left) <:+ recordRequests r) :
    ∃ t, runSteps (okTurns s.sentCount reqs.length).length s = .next t
      ∧ RunAt s₀ before (sent ++ reqs) (stageBefore left) ts t ∧ t.latch.record = r := by
  induction reqs generalizing s sent with
  | nil => exact ⟨s, rfl, by simpa [okTurns] using h, hr⟩
  | cons q reqs ih =>
    obtain ⟨u, hu, hat, hlatch⟩ := h.request_ok hr hsuffix
    have hcount : u.sentCount = s.sentCount + 1 := by
      rw [hat.sentCount, h.sentCount, ← List.append_assoc, List.length_append (bs := [q])]
      rfl
    rw [← hcount] at hat
    obtain ⟨t, ht, hat', hlatch'⟩ := ih hat hlatch ((List.suffix_cons ..).trans hsuffix)
    rw [List.append_assoc] at hat'
    refine ⟨t, ?_, hat', hlatch'⟩
    rw [← ht, ← runSteps_add hu, hcount, Nat.add_comm 2]
    rfl

/-- The block's turn after the last answer completes the record (R117). -/
theorem RunAt.completes {r : Record} {tail : List Byte}
    (h : RunAt s₀ before (recordRequests r) .done (.block :: ts) s) (hr : s.latch.record = r)
    (hscript : scriptIs (encodeScript before ++ encodeRecord r ++ tail) s₀) :
    ∃ t, step s = .next t ∧ RunAt s₀ (before ++ [r]) [] .fetch ts t := by
  subst hr
  obtain ⟨hfit, -⟩ := h.recordAtPtr hscript
  have hmax : s.scriptLen.toNat < 2 ^ 16 := s.scriptLen.isLt
  have hcount : 2 * before.length ≤ s.ptr.toNat := h.ptr ▸ two_mul_length_le_encodeScript before
  have hlength : 2 ≤ s.latch.record.length := by rw [Record.length_eq]; omega
  have hidx := h.recIdx
  have hdone := h.recDone
  refine ⟨completeRecord s.latch.record.length { s with turns := ts },
    ?_, h.opening, rfl, h.pending, h.reply, h.script, h.scriptLen, ?_, ?_, ?_, ?_, rfl⟩
  · rw [h.step_block, openStep_latched (.inr (.inr (.inr h.nextTurn.stage))), runRecord_done h.nextTurn.stage]
  · rw [encodeScript_append, encodeScript_singleton, List.length_append, encodeRecord_length, ← h.ptr]
    exact toNat_add_ofNat (x := s.ptr) (by omega)
  · rw [List.length_append, ← h.recIdx]
    exact toNat_add_ofNat (x := s.recIdx) (n := 1) (by omega)
  · rw [List.length_append, ← h.recDone]
    exact toNat_add_ofNat (x := s.recDone) (n := 1) (by omega)
  · rw [completeRecord_trace, List.append_nil, scriptRequests_append, scriptRequests_singleton]
    exact h.trace

/-! ### The turns of many records -/

/-- The turns of one record, all its requests answered `ok`. -/
theorem RunAt.record {r : Record} {tail : List Byte}
    (h : RunAt s₀ before [] .fetch (recordTurns s.sentCount r ++ ts) s) (hw : r.wf = true)
    (hscript : scriptIs (encodeScript before ++ encodeRecord r ++ tail) s₀) :
    ∃ t, runSteps (recordTurns s.sentCount r).length s = .next t ∧ RunAt s₀ (before ++ [r]) [] .fetch ts t := by
  rw [recordTurns, List.cons_append, List.append_assoc] at h
  obtain ⟨u, hu, hat, hlatch⟩ := h.decodes hw hscript
  rw [h.sentCount, ← hat.sentCount] at hat ⊢
  obtain ⟨v, hv, hat', hlatch'⟩ :=
    RunAt.requests_ok (reqs := recordRequests r) (left := []) (by rw [List.append_nil]; exact hat) hlatch
      (by rw [List.append_nil])
  obtain ⟨t, ht, hat''⟩ := hat'.completes hlatch' hscript
  refine ⟨t, ?_, hat''⟩
  rw [recordTurns, List.length_cons, runSteps_cons hu, List.length_append, runSteps_add hv, ← ht]
  exact runSteps_one v

/-- The turns of some records, all their requests answered `ok`. -/
theorem RunAt.records {rs : List Record} {tail : List Byte}
    (h : RunAt s₀ before [] .fetch (scriptTurns s.sentCount rs ++ ts) s) (hw : ∀ r ∈ rs, r.wf = true)
    (hscript : scriptIs (encodeScript before ++ encodeScript rs ++ tail) s₀) :
    ∃ t, runSteps (scriptTurns s.sentCount rs).length s = .next t ∧ RunAt s₀ (before ++ rs) [] .fetch ts t := by
  induction rs generalizing s before with
  | nil => exact ⟨s, rfl, by simpa [scriptTurns] using h⟩
  | cons r rs ih =>
    rw [scriptTurns, List.append_assoc] at h
    obtain ⟨hwr, hwrs⟩ := List.forall_mem_cons.1 hw
    obtain ⟨u, hu, hat⟩ := h.record hwr (by simpa [encodeScript] using hscript)
    have hcount : u.sentCount = s.sentCount + (recordRequests r).length := by
      rw [hat.sentCount, h.sentCount, scriptRequests_append, scriptRequests_singleton]
      simp [Nat.add_assoc]
    rw [← hcount] at hat
    obtain ⟨t, ht, hat'⟩ := ih hat hwrs (by simpa [encodeScript, encodeScript_append] using hscript)
    refine ⟨t, ?_, by simpa using hat'⟩
    rw [scriptTurns, List.length_append, runSteps_add hu, ← hcount, ht]

/-- The turns of a record whose request `j` is the first one answered `fail`, up to that answer. -/
theorem RunAt.record_fail {r : Record} {tail : List Byte} {j : Nat}
    (h : RunAt s₀ before [] .fetch
      (.block :: (okTurns s.sentCount j ++ .block :: .answer (s.sentCount + j + 1) .fail :: ts)) s)
    (hw : r.wf = true)
    (hscript : scriptIs (encodeScript before ++ encodeRecord r ++ tail) s₀)
    (hj : j < (recordRequests r).length) :
    let q := (recordRequests r)[j]
    ∃ u, RunAt s₀ before ((recordRequests r).take j) (requestStage q)
        (.block :: .answer (u.sentCount + 1) .fail :: ts) u
      ∧ runSteps ((okTurns s.sentCount j).length + 3) s = .next
          (raise (recordError (failedField q) u) (acknowledge .fail (takingAnswer q .fail ts u))) := by
  intro q
  have hsplit : (recordRequests r).take j ++ q :: (recordRequests r).drop (j + 1) = recordRequests r := by
    rw [← List.drop_eq_getElem_cons hj, List.take_append_drop]
  have htake : ((recordRequests r).take j).length = j := List.length_take_of_le (Nat.le_of_lt hj)
  obtain ⟨v, hv, hat, hlatch⟩ := h.decodes hw hscript
  rw [h.sentCount, ← hat.sentCount] at hat ⊢
  obtain ⟨u, hu, hat', hlatch'⟩ := RunAt.requests_ok (reqs := (recordRequests r).take j)
    (left := q :: (recordRequests r).drop (j + 1)) (by rw [hsplit, htake]; exact hat) hlatch (by rw [hsplit])
  have hcount : u.sentCount = v.sentCount + j := by
    simp [hat'.sentCount, hat.sentCount, Nat.min_eq_left (Nat.le_of_lt hj), Nat.add_assoc]
  rw [← hcount] at hat'
  refine ⟨u, hat', ?_⟩
  rw [runSteps_cons hv, ← htake, runSteps_add hu]
  exact hat'.request_fail (by rw [hlatch', ← hsplit]; exact List.suffix_append ..)

end

/-! ### The failure -/

theorem failedField_result (q : TxReq) : (failedField q).result = .transportFailure := by
  cases q <;> rfl

/-- Settles O51: the run replays the records before the failing one, and then the requests of that one up to
the failing one, whose answer ends it. -/
theorem transportFailureHaltsTheScript : Obligations.TransportFailureHaltsTheScript := by
  intro s before after r j ts hbefore hr hstart hj k run hturns
  have hat := hstart.runAt
  rw [hturns, List.append_assoc] at hat
  obtain ⟨t, ht, hat'⟩ := hat.records hbefore (by simpa [encodeScript] using hstart.scriptIs)
  have hk : t.sentCount = k := by simpa [k] using hat'.sentCount
  rw [← hk] at hat'
  obtain ⟨u, hu, hrun⟩ := RunAt.record_fail (j := j) (by simpa using hat') hr hstart.scriptIs hj
  have hlen : run.length = (scriptTurns s.sentCount before).length + ((okTurns t.sentCount j).length + 3) := by
    simp [run, hk, Nat.add_assoc]
  rw [← runSteps_add ht, ← hlen] at hrun
  refine ⟨_, hrun, if_pos hu.opening, rfl, failedField_result _, rfl, ?_, hu.recIdx, rfl, ?_, hu.recDone, hu.ptr,
    rfl⟩
  · simp [takingAnswer, hu.trace]
  · rw [← hu.ptr]
    exact BitVec.toNat_setWidth_of_le (by decide)

end Sys2Proof.Machine

/-! PROOF. What each move of the machine can do, said once: the block's own step, the host's, the reset's and
the transport's; and the frames that follow from it. -/

namespace Sys2Proof.Machine

open Host (Outcome)

/-! ### The block's own step -/

/-- What a step of the block by itself can do to `s`: nothing, one of the internal moves of a run, or the
step of a request, which a record makes or the frame stream. -/
inductive BlockMove (s : State) : State → Prop where
  | stays : BlockMove s s
  | finishesOpen : BlockMove s (finishOpen s)
  | decodes (bytes : List Byte) : BlockMove s (latchRecord bytes s)
  | raises (info : ErrRegs) (latch : Latch) : BlockMove s (raise info { s with latch := latch })
  | completes (len : Nat) : BlockMove s (completeRecord len s)
  | passesValidation : BlockMove s (goTo .resolve s)
  | resolves : BlockMove s (storeFrame s)
  | finishesCommit : BlockMove s (finishCommit s)
  | recordRequest (q : TxReq) (failure : ErrRegs) (opcode : Byte) (g : Stage) :
    BlockMove s (transact q failure (afterRequest opcode q g) s)
  | chunkRequest (q : TxReq) (failure : ErrRegs) (e : Nat) : BlockMove s (transact q failure (chunkSent e) s)

theorem runRecord_blockMove {r : Record} {s t : State} (h : runRecord r s = .next t) : BlockMove s t := by
  obtain ⟨q, g, -, -, rfl⟩ | ⟨-, rfl⟩ := runRecord_request_cases h
  · exact .recordRequest ..
  · exact .completes _

theorem decodeStep_blockMove {bytes : List Byte} {s t : State} (h : decodeStep bytes s = .next t) :
    BlockMove s t := by
  unfold decodeStep at h
  split at h
  · cases h
    exact .decodes _
  · cases h
  all_goals
    cases h
    exact .raises ..

theorem openStep_blockMove {s t : State} (h : openStep s = .next t) : BlockMove s t := by
  match hs : s.stage with
  | .fetch =>
    simp only [openStep, hs] at h
    split at h
    · cases h
      exact .finishesOpen
    · split at h
      · cases h
      · exact decodeStep_blockMove h
  | .cmd | .data | .delay | .done =>
    rw [openStep_latched (by simp [hs])] at h
    exact runRecord_blockMove h
  | .validate | .resolve | .stream => simp only [openStep, hs, reduceCtorEq] at h

theorem commitStep_blockMove {s t : State} (h : commitStep s = .next t) : BlockMove s t := by
  match hs : s.stage with
  | .validate =>
    rw [commitStep_validate hs, validateStack] at h
    split at h
    · split at h
      · cases h
        exact .raises _ s.latch
      · cases h
        exact .passesValidation
    · cases h
  | .resolve =>
    rw [commitStep_resolve hs, resolveStack] at h
    split at h
    · cases h
      exact .resolves
    · cases h
  | .stream =>
    rw [commitStep_stream hs, streamChunk] at h
    split at h
    · cases h
      exact .finishesCommit
    · split at h
      · cases h
      · cases h
        exact .chunkRequest ..
  | .fetch | .cmd | .data | .delay | .done => simp only [commitStep, hs, reduceCtorEq] at h

theorem blockStep_blockMove {s t : State} (h : blockStep s = .next t) : BlockMove s t := by
  match hb : s.busyOp with
  | .idle =>
    rw [blockStep_idle hb] at h
    cases h
    exact .stays
  | .opening => exact openStep_blockMove (blockStep_opening hb ▸ h)
  | .committing => exact commitStep_blockMove (blockStep_committing hb ▸ h)

/-! ### The host's operations -/

/-- What a host operation that is accepted does besides its response; `READ_REG` does nothing. -/
def hostEffect : Instr → State → State
  | .loadScript bytes, s => loadBytes bytes s
  | .openSession, s => startOpen s
  | .createPalette p n, s => putPalette p ⟨List.replicate n 0⟩ s
  | .writePalette p i rgb, s => putEntry p i rgb s
  | .createBitmap b w h, s => putBitmap b ⟨w, h, List.replicate (w * h) 0⟩ s
  | .writeCell b x y v, s => putCell b x y v s
  | .setLayer k bmp pal x0 y0 visible, s => putLayer k ⟨bmp, pal, x0, y0, visible == 1⟩ s
  | .setLayerCount n, s => putLayerCount n s
  | .commit, s => startCommit s
  | _, s => s

/-- An operation that is checked when the block is idle only answers, or is accepted and has its effect. -/
theorem whenIdle_whenInRange_cases (ok : State → Bool) (effect : State → State) (s : State) :
    (∃ resp, whenIdle s (fun s => whenInRange (ok s) s effect) = { s with response := some resp })
    ∨ s.busyOp = .idle ∧ whenIdle s (fun s => whenInRange (ok s) s effect) = respond .accepted (effect s) := by
  obtain ⟨-, h⟩ | ⟨hidle, h⟩ := whenIdle_cases s (fun s => whenInRange (ok s) s effect)
  · exact .inl ⟨_, h⟩
  · obtain ⟨-, h'⟩ | ⟨-, h'⟩ := whenInRange_cases (ok s) s effect
    · exact .inl ⟨_, h.trans h'⟩
    · exact .inr ⟨hidle, h.trans h'⟩

/-- A host operation only answers, or the block is idle and it is accepted and has its effect. -/
theorem exec_host_cases {i : Instr} {s t : State} (hi : isRecord i = false) (h : exec i s = .next t) :
    (∃ resp, t = { s with response := some resp })
    ∨ s.busyOp = .idle ∧ t = respond .accepted (hostEffect i s) := by
  cases i with
  | cmd | cmdDelay | cmdData | cmdDataDelay | snoopPixfmt | snoopMadctl => cases hi
  | loadScript | createPalette | writePalette | createBitmap | writeCell | setLayer | setLayerCount =>
    cases h
    exact whenIdle_whenInRange_cases _ _ s
  | openSession =>
    cases h
    obtain ⟨-, h⟩ | h := whenIdle_cases s (fun s => respond .accepted (startOpen s))
    · exact .inl ⟨_, h⟩
    · exact .inr h
  | commit =>
    cases h
    obtain ⟨-, h⟩ | ⟨hidle, h⟩ := whenIdle_cases s (fun s =>
      if s.session = .opened then respond .accepted (startCommit s) else respond .notOpen s)
    · exact .inl ⟨_, h⟩
    · by_cases hs : s.session = .opened
      · exact .inr ⟨hidle, h.trans (if_pos hs)⟩
      · exact .inl ⟨_, h.trans (if_neg hs)⟩
  | readReg r =>
    cases h
    by_cases hr : r ≤ 12
    · exact .inl ⟨_, if_pos hr⟩
    · exact .inl ⟨_, if_neg hr⟩

theorem hostEffect_cfg_trace (i : Instr) (s : State) :
    (hostEffect i s).cfg = s.cfg ∧ (hostEffect i s).trace = s.trace := by
  cases i with
  | writePalette p j rgb =>
    rw [hostEffect, putEntry_frame]
    exact ⟨rfl, rfl⟩
  | writeCell b x y v =>
    rw [hostEffect, putCell_frame]
    exact ⟨rfl, rfl⟩
  | _ => exact ⟨rfl, rfl⟩

/-- Settles O38: an operation that only answers changes nothing else, and the effect of each operation is a
named update, whose laws say what it leaves. -/
theorem hostOperationFrame : Obligations.HostOperationFrame := by
  intro i s t hi ht
  obtain ⟨resp, rfl⟩ | ⟨-, rfl⟩ := exec_host_cases hi ht
  · simp
  · cases i with
    | cmd | cmdDelay | cmdData | cmdDataDelay | snoopPixfmt | snoopMadctl => cases hi
    | writePalette p j rgb =>
      rw [hostEffect, putEntry_frame]
      simp
    | writeCell b x y v =>
      rw [hostEffect, putCell_frame]
      simp
    | loadScript | openSession | createPalette | createBitmap | setLayer | setLayerCount | commit | readReg =>
      simp [hostEffect]

/-! ### The host's turn and the step -/

/-- No request decodes to a record. -/
theorem decodeRequest_isHost {q : HostReq} {i : Instr} (h : decodeRequest q = .ok i) : isRecord i = false := by
  unfold decodeRequest at h
  repeat' split at h
  all_goals cases h
  all_goals rfl

/-- The host's turn only answers, or the block is idle and an operation is accepted and has its effect. -/
theorem hostStep_cases {q : HostReq} {s t : State} (h : hostStep q s = .next t) :
    (∃ resp, t = { s with response := some resp })
    ∨ s.busyOp = .idle ∧ ∃ i, isRecord i = false ∧ t = respond .accepted (hostEffect i s) := by
  unfold hostStep at h
  split at h
  · next i hq =>
    have hi := decodeRequest_isHost hq
    exact (exec_host_cases hi h).imp_right fun ⟨hidle, ht⟩ => ⟨hidle, i, hi, ht⟩
  all_goals
    cases h
    exact .inl ⟨_, rfl⟩

/-- What a step can do: a move of the block, which an answer that is not the pending request's leaves as it
is, or the host's turn, or a reset. -/
theorem step_cases {s t : State} (h : step s = .next t) :
    (∃ ts reply, BlockMove { s with turns := ts, reply := reply } t)
    ∨ (∃ q ts, s.turns = .host q :: ts ∧ hostStep q { s with turns := ts } = .next t)
    ∨ ∃ ts, s.turns = .reset :: ts ∧ t = resetStep { s with turns := ts } := by
  match hturns : s.turns with
  | [] =>
    rw [step_noTurn hturns] at h
    exact .inl ⟨s.turns, s.reply, blockStep_blockMove h⟩
  | .block :: ts =>
    rw [step_block hturns] at h
    exact .inl ⟨ts, s.reply, blockStep_blockMove h⟩
  | .host q :: ts =>
    rw [step_host hturns] at h
    exact .inr (.inl ⟨q, ts, rfl, h⟩)
  | .answer n a :: ts =>
    obtain ⟨-, -, hstep⟩ | ⟨-, hstep⟩ := step_answer_cases hturns
    · exact .inl ⟨ts, some a, blockStep_blockMove (hstep ▸ h)⟩
    · rw [hstep] at h
      cases h
      exact .inl ⟨ts, s.reply, .stays⟩
  | .reset :: ts =>
    rw [step_reset hturns] at h
    cases h
    exact .inr (.inr ⟨ts, rfl, rfl⟩)

/-! ### The trace -/

/-- From `s` to `t` the trace stays, or one request is sent where none was pending, or the pending request
is answered (20_memory.md R76). -/
def oneEvent (s t : State) : Prop :=
  t.trace = s.trace
  ∨ (∃ r, s.pending = none ∧ t.pending = some r ∧ t.trace = s.trace ++ [.sent r])
  ∨ (∃ r a, s.pending = some r ∧ t.pending = none ∧ t.trace = s.trace ++ [.answered a])

theorem transact_oneEvent (q : TxReq) (failure : ErrRegs) {onOk : State → State} (s : State)
    (hok : ∀ u, (onOk u).pending = u.pending ∧ (onOk u).trace = u.trace) :
    oneEvent s (transact q failure onOk s) := by
  obtain ⟨hp, h⟩ | ⟨hp, -, h⟩ | ⟨hp, -, h⟩ | ⟨hp, -, h⟩ := transact_cases q failure onOk s <;> rw [h]
  · exact .inr (.inl ⟨q, hp, rfl, rfl⟩)
  · exact .inl rfl
  · obtain ⟨r, hr⟩ := Option.ne_none_iff_exists'.1 hp
    obtain ⟨hpending, htrace⟩ := hok (acknowledge .ok s)
    exact .inr (.inr ⟨r, .ok, hr, hpending, htrace⟩)
  · obtain ⟨r, hr⟩ := Option.ne_none_iff_exists'.1 hp
    exact .inr (.inr ⟨r, .fail, hr, rfl, rfl⟩)

theorem BlockMove.oneEvent {s t : State} (h : BlockMove s t) : oneEvent s t := by
  cases h with
  | recordRequest q failure opcode g =>
    refine transact_oneEvent q failure s fun u => ?_
    obtain ⟨_, _, _, _, hafter⟩ := afterRequest_frame opcode q g u
    rw [hafter]
    exact ⟨rfl, rfl⟩
  | chunkRequest q failure e => exact transact_oneEvent q failure s fun u => ⟨rfl, rfl⟩
  | stays | finishesOpen | decodes | raises | completes | passesValidation | resolves | finishesCommit =>
    exact .inl rfl

/-- Settles O58: a block's move is one event at most, and the host's and the reset's turns keep the trace. -/
theorem oneRequestAtATime : Obligations.OneRequestAtATime := by
  intro s t h
  obtain ⟨ts, reply, hmove⟩ | ⟨q, ts, -, hhost⟩ | ⟨ts, -, rfl⟩ := step_cases h
  · exact hmove.oneEvent
  · obtain ⟨resp, rfl⟩ | ⟨-, i, -, rfl⟩ := hostStep_cases hhost
    · exact .inl rfl
    · exact .inl ((hostEffect_cfg_trace i { s with turns := ts }).2)
  · exact .inl rfl

/-! ### The memories -/

/-- `t` has the configuration, the script, the palettes, the bitmaps and the layers of `s`. -/
structure SameMemories (s t : State) : Prop where
  cfg : t.cfg = s.cfg
  script : t.script = s.script
  scriptLen : t.scriptLen = s.scriptLen
  palettes : t.palettes = s.palettes
  bitmaps : t.bitmaps = s.bitmaps
  layers : t.layers = s.layers
  layerCount : t.layerCount = s.layerCount

theorem transact_sameMemories (q : TxReq) (failure : ErrRegs) {onOk : State → State} (s : State)
    (hok : ∀ u, SameMemories u (onOk u)) : SameMemories s (transact q failure onOk s) := by
  obtain ⟨-, h⟩ | ⟨-, -, h⟩ | ⟨-, -, h⟩ | ⟨-, -, h⟩ := transact_cases q failure onOk s <;> rw [h]
  · exact ⟨rfl, rfl, rfl, rfl, rfl, rfl, rfl⟩
  · exact ⟨rfl, rfl, rfl, rfl, rfl, rfl, rfl⟩
  · exact { hok (acknowledge .ok s) with }
  · exact ⟨rfl, rfl, rfl, rfl, rfl, rfl, rfl⟩

/-- No move of the block writes a memory (20_memory.md R61, R83). -/
theorem BlockMove.sameMemories {s t : State} (h : BlockMove s t) : SameMemories s t := by
  cases h with
  | recordRequest q failure opcode g =>
    refine transact_sameMemories q failure s fun u => ?_
    obtain ⟨_, _, _, _, hafter⟩ := afterRequest_frame opcode q g u
    rw [hafter]
    exact ⟨rfl, rfl, rfl, rfl, rfl, rfl, rfl⟩
  | chunkRequest q failure e =>
    exact transact_sameMemories q failure s fun u => ⟨rfl, rfl, rfl, rfl, rfl, rfl, rfl⟩
  | stays | finishesOpen | decodes | raises | completes | passesValidation | resolves | finishesCommit =>
    exact ⟨rfl, rfl, rfl, rfl, rfl, rfl, rfl⟩

/-- Settles O60: the block's moves write no memory, and the host's effects need an idle block. -/
theorem memoriesAreFixedDuringARun : Obligations.MemoriesAreFixedDuringARun := by
  intro s t h
  obtain ⟨ts, reply, hmove⟩ | ⟨q, ts, -, hhost⟩ | ⟨ts, hreset, rfl⟩ := step_cases h
  · obtain ⟨hcfg, hscript, hlen, hpal, hbmp, hlayers, hcount⟩ := hmove.sameMemories
    exact ⟨hcfg, fun _ _ => ⟨hscript, hlen, hpal, hbmp, hlayers, hcount⟩⟩
  · obtain ⟨resp, rfl⟩ | ⟨hidle, i, -, rfl⟩ := hostStep_cases hhost
    · exact ⟨rfl, fun _ _ => ⟨rfl, rfl, rfl, rfl, rfl, rfl⟩⟩
    · exact ⟨(hostEffect_cfg_trace i { s with turns := ts }).1, fun hbusy _ => absurd hidle hbusy⟩
  · exact ⟨rfl, fun _ hno => absurd hreset (hno ts)⟩

end Sys2Proof.Machine

/-! PROOF. The encoding of records and scripts (30_encoding.md R90 to R99): what decoding answers in each case
of a byte stream, and that encoding and decoding are inverse. -/

namespace Sys2Proof

/-! ### The cases of decoding a record -/

section
variable {opcode desc : Byte} {rest : List Byte}

theorem decodeRecord_shortData (h : rest.length < descLen desc) :
    decodeRecord (opcode :: desc :: rest) = .error .shortData := by
  rw [decodeRecord, if_pos h]

theorem decodeRecord_plain (hd : descDelay desc = false) (h : descLen desc ≤ rest.length) :
    decodeRecord (opcode :: desc :: rest) =
      .ok (⟨opcode, rest.take (descLen desc), none⟩, rest.drop (descLen desc)) := by
  rw [decodeRecord, if_neg (Nat.not_lt.2 h), if_neg (by simp [hd])]

theorem decodeRecord_noDelay (hd : descDelay desc = true) (h : rest.length = descLen desc) :
    decodeRecord (opcode :: desc :: rest) = .error .noDelay := by
  rw [decodeRecord, if_neg (by omega), if_pos hd, List.drop_of_length_le (Nat.le_of_eq h)]

theorem decodeRecord_delayed (hd : descDelay desc = true) (h : descLen desc < rest.length) :
    decodeRecord (opcode :: desc :: rest) =
      .ok (⟨opcode, rest.take (descLen desc), some rest[descLen desc]⟩, rest.drop (descLen desc + 1)) := by
  rw [decodeRecord, if_neg (by omega), if_pos hd, List.drop_eq_getElem_cons h]

end

/-! ### A record by itself -/

/-- The bytes of a record of format C (R93). -/
theorem encodeRecord_cmd (opcode : Byte) : encodeRecord ⟨opcode, [], none⟩ = [opcode, 0x00] := by
  simp [encodeRecord, descByte]

/-- The bytes of a record of format CD (R93). -/
theorem encodeRecord_cmdDelay (opcode ms : Byte) : encodeRecord ⟨opcode, [], some ms⟩ = [opcode, 0x80, ms] := by
  simp [encodeRecord, descByte]

/-- A record that stands alone is decoded to the instruction whose record it is. -/
theorem decode_encodeRecord {c : Config} {i : Instr} {r : Record} (hi : WellFormed c i = true)
    (hr : recordOf c i = some r) : decode c (.record (encodeRecord r)) = .ok i := by
  obtain ⟨hclassify, hw, -⟩ := classify_recordOf hi hr
  have hdecode := decodeRecord_encodeRecord hw []
  rw [List.append_nil] at hdecode
  simp only [decode, hdecode, hclassify]

/-! ### Scripts -/

/-- What is known when a script decodes: its records are well formed, and it is their encoding. -/
theorem decodeScriptFrom_ok {rounds k a : Nat} {bytes : List Byte} {rs : List Record}
    (h : decodeScriptFrom rounds k a bytes = .ok rs) :
    (∀ r ∈ rs, r.wf = true) ∧ encodeScript rs = bytes := by
  fun_induction decodeScriptFrom rounds k a bytes generalizing rs with
  | case1 =>
    cases h
    exact ⟨nofun, rfl⟩
  | case2 | case3 | case4 => cases h
  | case5 rounds k a b bs r rest hrecord rs hscript ih =>
    cases h
    obtain ⟨hwr, hbytes⟩ := decodeRecord_ok hrecord
    obtain ⟨hwrs, hrest⟩ := ih hscript
    exact ⟨List.forall_mem_cons.2 ⟨hwr, hwrs⟩, by rw [encodeScript, hrest, hbytes]⟩

theorem decodeScript_ok {bytes : List Byte} {rs : List Record} (h : decodeScript bytes = .ok rs) :
    (∀ r ∈ rs, r.wf = true) ∧ encodeScript rs = bytes :=
  decodeScriptFrom_ok h

/-- One round decodes the record at the head. -/
theorem decodeScriptFrom_record {bytes rest : List Byte} {r : Record} (h : decodeRecord bytes = .ok (r, rest))
    (rounds k a : Nat) :
    decodeScriptFrom (rounds + 1) k a bytes =
      (decodeScriptFrom rounds (k + 1) (a + r.length) rest).map (r :: ·) := by
  cases bytes with
  | nil => cases h
  | cons b bs =>
    simp only [decodeScriptFrom, h]
    cases decodeScriptFrom rounds (k + 1) (a + r.length) rest <;> rfl

/-- Decoding goes through encoded records, one a round, and on with what follows them. -/
theorem decodeScriptFrom_encodeScript {rs : List Record} (hw : ∀ r ∈ rs, r.wf = true) (rounds k a : Nat)
    (tail : List Byte) :
    decodeScriptFrom (rounds + rs.length) k a (encodeScript rs ++ tail) =
      (decodeScriptFrom rounds (k + rs.length) (a + (encodeScript rs).length) tail).map (rs ++ ·) := by
  induction rs generalizing k a with
  | nil => exact (congrFun Except.map_id _).symm
  | cons r rs ih =>
    obtain ⟨hwr, hwrs⟩ := List.forall_mem_cons.1 hw
    have hk : k + 1 + rs.length = k + (rs.length + 1) := by omega
    have ha : a + r.length + (encodeScript rs).length = a + (encodeRecord r ++ encodeScript rs).length := by
      rw [List.length_append, encodeRecord_length, Nat.add_assoc]
    rw [encodeScript, List.append_assoc, List.length_cons, ← Nat.add_assoc,
      decodeScriptFrom_record (decodeRecord_encodeRecord hwr _), ih hwrs, hk, ha]
    cases decodeScriptFrom rounds (k + (rs.length + 1)) _ tail <;> rfl

theorem decodeScript_encodeScript {rs : List Record} (hw : ∀ r ∈ rs, r.wf = true) :
    decodeScript (encodeScript rs) = .ok rs := by
  have hrounds : rs.length ≤ (encodeScript rs).length := by
    have := Machine.two_mul_length_le_encodeScript rs
    omega
  have h := decodeScriptFrom_encodeScript hw ((encodeScript rs).length - rs.length) 0 0 []
  rw [Nat.sub_add_cancel hrounds, List.append_nil] at h
  rw [decodeScript, h]
  simp [decodeScriptFrom, Except.map]

/-- Settles O2: a script that decodes is the encoding of its records, so it is told by them. -/
theorem scriptRoundTrip : Obligations.ScriptRoundTrip := by
  refine ⟨fun bytes rs h => (decodeScript_ok h).2, fun rs hw => decodeScript_encodeScript hw,
    fun b1 b2 rs h1 h2 => ?_⟩
  calc b1 = encodeScript rs := (decodeScript_ok h1).2.symm
    _ = b2 := (decodeScript_ok h2).2

/-! ### Records -/

/-- Settles O3: the descriptor is the model's, whose two fields the descriptor's laws give. -/
theorem recordLayout : Obligations.RecordLayout := by
  intro r hw
  have hlen : r.data.length ≤ 127 := of_decide_eq_true hw
  exact ⟨descByte r.delay.isSome r.data.length, rfl, descDelay_descByte _ hlen, descLen_descByte _ hlen⟩

/-- Settles O4: the two cases in which a record decodes. -/
theorem recordOperands : Obligations.RecordOperands :=
  fun _ _ _ => ⟨decodeRecord_plain, decodeRecord_delayed⟩

/-- Settles O5: by how many bytes follow the descriptor, fewer than it declares, exactly as many, or more,
and by the delay flag. -/
theorem onlyTruncationIsRejected : Obligations.OnlyTruncationIsRejected := by
  refine ⟨fun opcode => rfl, fun opcode desc rest => ?_⟩
  show (_ ↔ rest.length < descLen desc) ∧ (_ ↔ rest.length = descLen desc ∧ descDelay desc = true)
    ∧ (_ ↔ descLen desc + (descDelay desc).toNat ≤ rest.length)
  obtain hlt | heq | hgt := Nat.lt_trichotomy rest.length (descLen desc)
  · rw [decodeRecord_shortData hlt]
    exact ⟨iff_of_true rfl hlt, iff_of_false nofun fun h => hlt.ne h.1, iff_of_false nofun (by omega)⟩
  · have hshort : ¬ rest.length < descLen desc := heq.not_lt
    match hd : descDelay desc with
    | false =>
      rw [decodeRecord_plain hd heq.ge]
      exact ⟨iff_of_false nofun hshort, iff_of_false nofun nofun, iff_of_true ⟨_, rfl⟩ heq.ge⟩
    | true =>
      rw [decodeRecord_noDelay hd heq]
      exact ⟨iff_of_false nofun hshort, iff_of_true rfl ⟨heq, rfl⟩, iff_of_false nofun (by simp [heq])⟩
  · have hshort : ¬ rest.length < descLen desc := hgt.not_gt
    have hnoDelay : ¬ (rest.length = descLen desc ∧ descDelay desc = true) := fun h => hgt.ne' h.1
    have hwhole : descLen desc + (descDelay desc).toNat ≤ rest.length := by
      have := Bool.toNat_le (descDelay desc)
      omega
    have hok : ∃ p, decodeRecord (opcode :: desc :: rest) = .ok p := by
      cases hd : descDelay desc
      · exact ⟨_, decodeRecord_plain hd hgt.le⟩
      · exact ⟨_, decodeRecord_delayed hd hgt⟩
    obtain ⟨p, hp⟩ := hok
    rw [hp]
    exact ⟨iff_of_false nofun hshort, iff_of_false nofun hnoDelay, iff_of_true ⟨p, rfl⟩ hwhole⟩

/-- Settles O6: the stream is the record's encoding and the rest, and the record's data are at most 127
bytes. -/
theorem recordLengthRule : Obligations.RecordLengthRule := by
  intro bytes rest r h
  obtain ⟨hw, rfl⟩ := decodeRecord_ok h
  have hlen : r.data.length ≤ 127 := of_decide_eq_true hw
  have hdelay : r.delay.isSome.toNat ≤ 1 := Bool.toNat_le _
  refine ⟨(recordSpan_encodeRecord hw rest).symm, ?_, ?_, ?_, ?_⟩
  · rw [Record.length_eq]
    omega
  · rw [Record.length_eq]
    omega
  · rw [← encodeRecord_length, List.drop_left]
  · rw [List.length_append, encodeRecord_length]

/-- Settles O7: each row's record is that of its instruction, which is in canonical form. -/
theorem recordsDecodeToTheirRow : Obligations.RecordsDecodeToTheirRow := by
  intro c opcode ms data delay hdata
  rw [← encodeRecord_cmd, ← encodeRecord_cmdDelay]
  refine ⟨decode_encodeRecord rfl rfl, decode_encodeRecord rfl rfl, fun hpixfmt hmadctl => ⟨?_, ?_⟩, ?_,
    fun hne => ?_⟩
  · exact decode_encodeRecord (by simp [WellFormed, hdata, hpixfmt, hmadctl]) rfl
  · exact decode_encodeRecord (by simp [WellFormed, hdata, hpixfmt, hmadctl]) rfl
  · exact decode_encodeRecord (i := .snoopPixfmt data delay) hdata rfl
  · exact decode_encodeRecord (by simp [WellFormed, hdata, hne]) rfl

end Sys2Proof

/-! PROOF. A COMMIT run over a valid stack (42_compositor.md R172 to R179): the chunks of the frame, the data
requests they make, and the run through its phases. -/

namespace Sys2Proof.Machine

open Host (Outcome)

/-! ### The chunks of a frame -/

/-- A chunk has at least one pixel (R177). -/
theorem lt_chunkEnd {c : Config} (hw : 0 < c.frameW) {pos : Nat} (h : pos < c.framePixels) :
    pos < chunkEnd c pos := by
  unfold chunkEnd
  split
  · rw [Nat.mul_comm]
    exact Nat.lt_mul_div_succ pos hw
  · split
    · next e he => exact Nat.lt_min.2 ⟨by simpa using List.find?_some he, h⟩
    · exact h

/-- The chunks of a stream that stands at pixel `pos` end at the listed pixels, up to the end of the frame. -/
inductive ChunksFrom (c : Config) : Nat → List Nat → Prop where
  | done : ChunksFrom c c.framePixels []
  | chunk {pos : Nat} {ends : List Nat} (h : pos < c.framePixels) (hrest : ChunksFrom c (chunkEnd c pos) ends) :
    ChunksFrom c pos (chunkEnd c pos :: ends)

/-- The default chunks are the rows (R178). -/
theorem chunksFrom_rows {c : Config} (hc : c.chunking = .perRow) (hw : 0 < c.frameW) {Y n : Nat}
    (h : Y + n = c.frameH) :
    ChunksFrom c (Y * c.frameW) ((List.range' Y n).map (fun Y => (Y + 1) * c.frameW)) := by
  induction n generalizing Y with
  | zero =>
    have hend : Y * c.frameW = c.framePixels := by rw [← Nat.add_zero Y, h, Nat.mul_comm]; rfl
    rw [hend]
    exact .done
  | succ n ih =>
    have hrow : chunkEnd c (Y * c.frameW) = (Y + 1) * c.frameW := by
      simp only [chunkEnd, hc, Nat.mul_div_cancel Y hw]
    have hlt : Y * c.frameW < c.framePixels := by
      rw [Config.framePixels, Nat.mul_comm c.frameW]
      exact Nat.mul_lt_mul_of_pos_right (by omega) hw
    have hrest := ih (Y := Y + 1) (by omega)
    rw [← hrow] at hrest
    rw [List.range'_succ, List.map_cons, ← hrow]
    exact .chunk hlt hrest

theorem chunkEndsOk_cons {start total e : Nat} {es : List Nat} :
    chunkEndsOk start total (e :: es) = true ↔ start < e ∧ chunkEndsOk e total es = true := by
  rw [chunkEndsOk, Bool.and_eq_true, decide_eq_true_eq]

theorem chunkEndsOk_le {start total : Nat} {ends : List Nat} (h : chunkEndsOk start total ends = true) :
    start ≤ total := by
  induction ends generalizing start with
  | nil => exact (of_decide_eq_true h).le
  | cons e es ih =>
    obtain ⟨hlt, hrest⟩ := chunkEndsOk_cons.1 h
    exact hlt.le.trans (ih hrest)

/-- The ends of another partition that come after those passed. -/
theorem chunksFrom_ends {c : Config} {passed ends : List Nat} (hc : c.chunking = .endsAt (passed ++ ends))
    {pos : Nat} (hpassed : ∀ e ∈ passed, e ≤ pos) (h : chunkEndsOk pos c.framePixels ends = true) :
    ChunksFrom c pos ends := by
  induction ends generalizing passed pos with
  | nil =>
    have hend : pos = c.framePixels := beq_iff_eq.1 h
    rw [hend]
    exact .done
  | cons e es ih =>
    obtain ⟨hlt, hrest⟩ := chunkEndsOk_cons.1 h
    have hle := chunkEndsOk_le hrest
    have hnext : chunkEnd c pos = e := by
      have hskip : passed.find? (fun e => pos < e) = none := by simpa using hpassed
      simp [chunkEnd, hc, List.find?_append, hskip, hlt, hle]
    have hpassed' : ∀ d ∈ passed ++ [e], d ≤ e := by
      simp only [List.mem_append, List.mem_singleton]
      rintro d (hd | rfl)
      · exact (hpassed d hd).trans hlt.le
      · exact le_refl d
    have hstream := ih (passed := passed ++ [e]) (by simpa using hc) hpassed' hrest
    rw [← hnext] at hstream ⊢
    exact .chunk (hlt.trans_le hle) hstream

/-- What a legal configuration says of the frame (00_scope.md R9). -/
theorem wf_frame {c : Config} (h : c.wf = true) :
    0 < c.frameW ∧ c.framePixels < 2 ^ 32 ∧ c.chunking.wf c.framePixels = true := by
  simp only [Config.wf, Bool.and_eq_true, decide_eq_true_eq] at h
  obtain ⟨⟨⟨⟨⟨⟨⟨⟨⟨⟨⟨-, hw⟩, hh⟩, -⟩, -⟩, -⟩, -⟩, -⟩, -⟩, -⟩, -⟩, hchunks⟩ := h
  obtain ⟨hw1, hw2⟩ := hw
  obtain ⟨-, hh2⟩ := hh
  refine ⟨hw1, ?_, hchunks⟩
  calc c.framePixels ≤ 65535 * 65535 := Nat.mul_le_mul hw2 hh2
    _ < 2 ^ 32 := by decide

/-- The ends of `CHUNKING` are those of the stream from the first pixel, whatever the partition. -/
theorem chunksFrom_chunkEnds {c : Config} (h : c.wf = true) : ChunksFrom c 0 (chunkEnds c) := by
  obtain ⟨hw, -, hchunks⟩ := wf_frame h
  match hc : c.chunking with
  | .perRow =>
    have hrows := chunksFrom_rows hc hw (Nat.zero_add c.frameH)
    rw [Nat.zero_mul] at hrows
    simpa only [chunkEnds, hc, List.range_eq_range'] using hrows
  | .endsAt ends =>
    rw [hc] at hchunks
    simpa only [chunkEnds, hc] using chunksFrom_ends (passed := []) hc (by simp) hchunks

/-! ### The requests of a frame -/

theorem frameRequests_length (be : Bool) (frame : List Pixel) (pos : Nat) (ends : List Nat) :
    (frameRequests be frame pos ends).length = ends.length := by
  induction ends generalizing pos with
  | nil => rfl
  | cons e es ih => rw [frameRequests, List.length_cons, ih, List.length_cons]

theorem frameBytes_append (be : Bool) (ps qs : List Pixel) :
    frameBytes be (ps ++ qs) = frameBytes be ps ++ frameBytes be qs := by
  induction ps with
  | nil => rfl
  | cons p ps ih => simp only [List.cons_append, frameBytes, ih, List.append_assoc]

/-- A pixel has bytes (41_pixel_packer.md R155). -/
theorem frameBytes_cons_of_ne_nil (be : Bool) {ps : List Pixel} (h : ps ≠ []) :
    ∃ b bs, frameBytes be ps = b :: bs := by
  obtain ⟨p, qs, rfl⟩ := List.exists_cons_of_ne_nil h
  cases be <;> exact ⟨_, _, rfl⟩

section
variable {c : Config} {frame : List Pixel} {pos : Nat} {ends : List Nat}

/-- No request of the stream is empty. -/
theorem ChunksFrom.requests_nonempty (h : ChunksFrom c pos ends) (hw : 0 < c.frameW)
    (hframe : frame.length = c.framePixels) (be : Bool) :
    ∀ r ∈ frameRequests be frame pos ends, ∃ b bs, r = .data (b :: bs) := by
  induction h with
  | done => exact fun r hr => nomatch hr
  | @chunk pos ends hpos hrest ih =>
    have hlt := lt_chunkEnd hw hpos
    have hne : (frame.drop pos).take (chunkEnd c pos - pos) ≠ [] := by
      apply List.ne_nil_of_length_pos
      rw [List.length_take, List.length_drop]
      omega
    obtain ⟨b, bs, hbytes⟩ := frameBytes_cons_of_ne_nil be hne
    rw [frameRequests, List.forall_mem_cons]
    exact ⟨⟨b, bs, by rw [hbytes]⟩, ih⟩

/-- The bytes of the requests joined are those of the rest of the frame. -/
theorem ChunksFrom.dataBytes_requests (h : ChunksFrom c pos ends) (hw : 0 < c.frameW)
    (hframe : frame.length = c.framePixels) (be : Bool) :
    dataBytes (frameRequests be frame pos ends) = frameBytes be (frame.drop pos) := by
  induction h with
  | done =>
    rw [List.drop_of_length_le hframe.le]
    rfl
  | @chunk pos ends hpos hrest ih =>
    have hskip : frame.drop (chunkEnd c pos) = (frame.drop pos).drop (chunkEnd c pos - pos) := by
      rw [List.drop_drop, Nat.add_sub_of_le (lt_chunkEnd hw hpos).le]
    rw [frameRequests, dataBytes, ih, hskip, ← frameBytes_append, List.take_append_drop]

end

/-! ### The block's steps -/

theorem resolveFrame_length (s : State) : (resolveFrame s).length = s.cfg.framePixels := by
  rw [resolveFrame, List.length_map, List.length_range]

/-- The validation phase of a valid stack. -/
theorem validateStack_valid {s : State} (h : stackObjectsExist s = true) (hf : firstInvalid s = none) :
    validateStack s = .next (goTo .resolve s) := by
  simp [validateStack, h, hf]

/-- The block's turn in which a valid stack passes validation (R172). -/
theorem step_validate {s : State} {ts : List Turn} (hturns : s.turns = .block :: ts)
    (hcommitting : s.busyOp = .committing) (hstage : s.stage = .validate) (hobjects : stackObjectsExist s = true)
    (hvalid : firstInvalid s = none) : step s = .next (goTo .resolve { s with turns := ts }) :=
  calc step s = blockStep { s with turns := ts } := step_block hturns
    _ = commitStep { s with turns := ts } := blockStep_committing hcommitting
    _ = validateStack { s with turns := ts } := commitStep_validate hstage
    _ = _ := validateStack_valid hobjects hvalid

/-- The block's turn in which a valid stack is resolved (R176). -/
theorem step_resolve {s : State} {ts : List Turn} (hturns : s.turns = .block :: ts)
    (hcommitting : s.busyOp = .committing) (hstage : s.stage = .resolve) (hobjects : stackObjectsExist s = true)
    (hvalid : firstInvalid s = none) : step s = .next (storeFrame { s with turns := ts }) :=
  calc step s = blockStep { s with turns := ts } := step_block hturns
    _ = commitStep { s with turns := ts } := blockStep_committing hcommitting
    _ = resolveStack { s with turns := ts } := commitStep_resolve hstage
    _ = _ := resolveStack_valid hobjects hvalid

/-- The request of the chunk at pixel `pos` of the frame that `s₀` resolves to. -/
def chunkRequest (s₀ : State) (pos : Nat) : TxReq :=
  .data (frameBytes s₀.cfg.pixelBe (((resolveFrame s₀).drop pos).take (chunkEnd s₀.cfg pos - pos)))

/-- The block step of a stream of that frame, at the chunk at pixel `pos`. -/
theorem commitStep_chunk {s₀ s : State} {pos : Nat} (hstage : s.stage = .stream) (hcfg : s.cfg = s₀.cfg)
    (hframe : s.frame = resolveFrame s₀) (hpos : s.chunkPos = pos) (h : pos < s₀.cfg.framePixels) :
    commitStep s = .next (transact (chunkRequest s₀ pos) (chunkError pos) (chunkSent (chunkEnd s₀.cfg pos)) s) := by
  have hend : chunkEnd s.cfg s.chunkPos ≤ s.frame.length := by
    rw [hcfg, hpos, hframe, resolveFrame_length]
    exact chunkEnd_le_framePixels h
  rw [commitStep_stream hstage, streamChunk_chunk (by rwa [hpos, hcfg]) hend, chunkBytes, hframe, hcfg, hpos]
  rfl

/-! ### Where a run streams -/

/-- The COMMIT run that starts in the legal state `s₀` has stored the frame and sent the requests `sent` of the
pixels below `pos`, all answered `ok`, and stands in `s`, nothing pending, with the turns `ts` to come. -/
structure StreamAt (s₀ : State) (sent : List TxReq) (pos : Nat) (ts : List Turn) (s : State) : Prop where
  cfg : s.cfg = s₀.cfg
  session : s.session = .opened
  committing : s.busyOp = .committing
  stage : s.stage = .stream
  pending : s.pending = none
  frame : s.frame = resolveFrame s₀
  chunkPos : s.chunkPos = pos
  pixSent : s.pixSent.toNat = pos
  trace : s.trace = s₀.trace ++ answeredOk sent
  turns : s.turns = ts

/-- The first two turns of the block validate the stack and resolve the frame. -/
theorem State.Legal.streamAt {s : State} (h : s.Legal) (hcommitting : s.busyOp = .committing)
    (hstage : s.stage = .validate) (hvalid : firstInvalid s = none) (ts : List Turn) :
    ∃ t, runSteps 2 { s with turns := .block :: .block :: ts } = .next t ∧ StreamAt s [] 0 ts t := by
  have hrun := h.committingRun hcommitting
  simp only [commitLegal, hstage] at hrun
  obtain ⟨hpending, hpix⟩ := hrun
  have hvalidate : step { s with turns := .block :: .block :: ts }
      = .next (goTo .resolve { s with turns := .block :: ts }) :=
    step_validate rfl hcommitting hstage h.objectsExist hvalid
  have hresolve : step (goTo .resolve { s with turns := .block :: ts })
      = .next (storeFrame (goTo .resolve { s with turns := ts })) :=
    step_resolve rfl hcommitting rfl h.objectsExist hvalid
  refine ⟨storeFrame (goTo .resolve { s with turns := ts }), ?_,
    rfl, h.committingSession hcommitting, hcommitting, rfl, hpending, rfl, rfl, ?_, ?_, rfl⟩
  · rw [runSteps_cons hvalidate, runSteps_one, hresolve]
  · exact congrArg BitVec.toNat hpix
  · exact (List.append_nil _).symm

section
variable {s₀ s : State} {sent : List TxReq} {pos : Nat} {ts : List Turn}

theorem StreamAt.sentCount (h : StreamAt s₀ sent pos ts s) : s.sentCount = s₀.sentCount + sent.length := by
  rw [State.sentCount, h.trace, List.countP_append, countP_isSent_answeredOk, State.sentCount]

theorem StreamAt.step_block (h : StreamAt s₀ sent pos (.block :: ts) s) :
    step s = commitStep { s with turns := ts } :=
  (Machine.step_block h.turns).trans (blockStep_committing h.committing)

/-- The block's turn sends the next chunk, and the transport's turn takes its `ok`. -/
theorem StreamAt.chunk (h : StreamAt s₀ sent pos (.block :: .answer (s.sentCount + 1) .ok :: ts) s)
    (hmax : s₀.cfg.framePixels < 2 ^ 32) (hpos : pos < s₀.cfg.framePixels) :
    ∃ t, runSteps 2 s = .next t
      ∧ StreamAt s₀ (sent ++ [chunkRequest s₀ pos]) (chunkEnd s₀.cfg pos) ts t := by
  let q := chunkRequest s₀ pos
  let u := { s with turns := .answer (s.sentCount + 1) .ok :: ts }
  let v := takingAnswer q .ok ts s
  have hsend : step s = .next (issue q u) :=
    calc step s = commitStep u := h.step_block
      _ = _ := commitStep_chunk (s := u) h.stage h.cfg h.frame h.chunkPos hpos
      _ = _ := congrArg Outcome.next (transact_issues (s := u) h.pending ..)
  have htake : step (issue q u) = .next (chunkSent (chunkEnd s₀.cfg pos) (acknowledge .ok v)) :=
    calc step (issue q u) = blockStep v := step_answer (by rw [issue_sentCount]; rfl) (Option.some_ne_none q)
      _ = commitStep v := blockStep_committing h.committing
      _ = _ := commitStep_chunk (s := v) h.stage h.cfg h.frame h.chunkPos hpos
      _ = _ := congrArg Outcome.next (transact_ok (Option.some_ne_none q) rfl ..)
  have hrun := (runSteps_cons hsend 1).trans ((runSteps_one _).trans htake)
  refine ⟨_, hrun, h.cfg, h.session, h.committing, h.stage, rfl, h.frame, rfl, ?_, ?_, rfl⟩
  · have hle := chunkEnd_le_framePixels hpos
    exact (BitVec.toNat_ofNat ..).trans (Nat.mod_eq_of_lt (by omega))
  · simp [v, q, takingAnswer, h.trace, answeredOk_append, answeredOk]

/-- The turns in which the chunks that are left are answered `ok`. -/
theorem StreamAt.chunks {ends : List Nat} (hchunks : ChunksFrom s₀.cfg pos ends)
    (h : StreamAt s₀ sent pos (okTurns s.sentCount ends.length ++ ts) s) (hmax : s₀.cfg.framePixels < 2 ^ 32) :
    ∃ t, runSteps (okTurns s.sentCount ends.length).length s = .next t
      ∧ StreamAt s₀ (sent ++ frameRequests s₀.cfg.pixelBe (resolveFrame s₀) pos ends) s₀.cfg.framePixels ts t := by
  induction hchunks generalizing s sent with
  | done => exact ⟨s, rfl, by simpa [okTurns, frameRequests] using h⟩
  | @chunk pos ends hpos hrest ih =>
    obtain ⟨u, hu, hat⟩ := h.chunk hmax hpos
    have hcount : u.sentCount = s.sentCount + 1 := by
      rw [hat.sentCount, h.sentCount, List.length_append]
      rfl
    rw [← hcount] at hat
    obtain ⟨t, ht, hat'⟩ := ih hat
    rw [List.append_assoc] at hat'
    refine ⟨t, ?_, hat'⟩
    rw [← ht, ← runSteps_add hu, hcount, Nat.add_comm 2]
    rfl

/-- The block's turn after the last chunk ends the run (R177). -/
theorem StreamAt.finishes (h : StreamAt s₀ sent s₀.cfg.framePixels (.block :: ts) s) :
    step s = .next (finishCommit { s with turns := ts }) :=
  calc step s = commitStep { s with turns := ts } := h.step_block
    _ = streamChunk { s with turns := ts } := commitStep_stream h.stage
    _ = _ := streamChunk_end (by rw [h.chunkPos, h.cfg])

end

/-- Settles O53: the run resolves the frame, streams its chunks from the first pixel to the last, and ends. -/
theorem commitStreamsTheWholeFrame : Obligations.CommitStreamsTheWholeFrame := by
  intro s h hcommitting hstage hvalid reqs run
  obtain ⟨hw, hmax, -⟩ := wf_frame h.config
  have hchunks := chunksFrom_chunkEnds h.config
  have hframe := resolveFrame_length s
  have hlen : reqs.length = (chunkEnds s.cfg).length := frameRequests_length ..
  refine ⟨fun hc => ?_, fun ends hc => ?_, hchunks.requests_nonempty hw hframe _,
    hchunks.dataBytes_requests hw hframe _, fun ts => ?_⟩
  · rw [hlen, chunkEnds, hc, List.length_map, List.length_range]
  · rw [hlen, chunkEnds, hc]
  · obtain ⟨u, hu, hstart⟩ := h.streamAt hcommitting hstage hvalid (okTurns s.sentCount reqs.length ++ .block :: ts)
    have hcount : u.sentCount = s.sentCount := hstart.sentCount
    rw [hlen, ← hcount] at hstart
    obtain ⟨v, hv, hend⟩ := StreamAt.chunks hchunks hstart hmax
    refine ⟨finishCommit { v with turns := ts }, ?_, hend.session, rfl, rfl, hend.pending, hend.pixSent, hend.trace,
      rfl⟩
    have hlength : run.length = 2 + ((okTurns u.sentCount (chunkEnds s.cfg).length).length + 1) := by
      simp only [run, hlen, hcount, List.length_cons, List.length_append, List.length_nil]
      omega
    have hturns : run ++ ts = .block :: .block :: (okTurns s.sentCount reqs.length ++ .block :: ts) := by
      simp [run]
    rw [hlength, hturns, runSteps_add hu, runSteps_add hv, runSteps_one, hend.finishes]

end Sys2Proof.Machine

/-! PROOF. The moves of an OPEN run (40_script_records.md R111, R112, R123): a record that is decoded, one that
is cut short, the end of the script; and the whole runs that end so. -/

namespace Sys2Proof.Machine

open Host (Outcome)

/-! ### A record that is cut short -/

/-- The first two bytes of a stream tell how long its record is (30_encoding.md R94). -/
theorem recordSpan_take_two (bytes : List Byte) : recordSpan (bytes.take 2) = recordSpan bytes := by
  match bytes with
  | [] | [_] | _ :: _ :: _ => rfl

/-- The fetch reads the bytes of the record at `PTR`, as many of them as the script still has. -/
theorem fetchBytes_eq_take {s : State} {bytes : List Byte}
    (hread : s.script.readBytes s.ptr.toNat (s.scriptLen.toNat - s.ptr.toNat) = some bytes) :
    fetchBytes s = some (bytes.take (recordSpan bytes)) := by
  have hlen := Memory.readBytes_length hread
  have hreads : ∀ k, s.script.readBytes s.ptr.toNat (min k (s.scriptLen.toNat - s.ptr.toNat)) =
      some (bytes.take k) := by
    intro k
    have hpart := Memory.readBytes_part hread (i := 0) (k := min k bytes.length) (by omega)
    rwa [Nat.add_zero, List.drop_zero, ← List.take_eq_take_min, hlen] at hpart
  simp only [fetchBytes, hreads, recordSpan_take_two]

/-- A stream without a whole record at its start is no longer than that record would be. -/
theorem length_le_recordSpan_of_error {bytes : List Byte} {miss : Truncation}
    (h : decodeRecord bytes = .error miss) : bytes.length ≤ recordSpan bytes := by
  match bytes with
  | [] | [_] => exact Nat.le_refl _
  | opcode :: desc :: rest =>
    by_contra hlong
    simp only [recordSpan, List.length_cons] at hlong
    cases hd : descDelay desc
    · rw [decodeRecord_plain hd (by omega)] at h
      cases h
    · rw [decodeRecord_delayed hd (by rw [hd, Bool.toNat_true] at hlong; omega)] at h
      cases h

/-- Where there is a byte, the first missing field is not the opcode. -/
theorem ne_noOpcode_of_decodeRecord {bytes : List Byte} {miss : Truncation} (hne : bytes ≠ [])
    (h : decodeRecord bytes = .error miss) : miss ≠ .noOpcode := by
  rintro rfl
  match bytes with
  | [] => exact hne rfl
  | [_] => cases h
  | _ :: _ :: _ =>
    simp only [decodeRecord] at h
    repeat' split at h
    all_goals cases h

/-- `s` after the OPEN run has ended at a record that is cut short, with the field `miss` missing
(R112, 60_exceptions.md R243). -/
def malformedState (miss : Truncation) (latch : Latch) (s : State) : State :=
  { s with
    latch := latch
    err := { record := s.recIdx, field := missingField miss, offset := s.ptr.setWidth 32 }
    result := .malformedScript, session := .failed, busyOp := .idle, pending := none }

/-- The decode step of a record that is cut short. -/
theorem decodeStep_malformed {s : State} {bytes : List Byte} {miss : Truncation} (hopening : s.busyOp = .opening)
    (hne : bytes ≠ []) (h : decodeRecord bytes = .error miss) :
    decodeStep bytes s = .next (malformedState miss (latchBytes bytes s.latch) s) := by
  have hmiss := ne_noOpcode_of_decodeRecord hne h
  cases miss with
  | noOpcode => exact absurd rfl hmiss
  | noDescriptor | shortData | noDelay =>
    simp only [decodeStep, h, raise, hopening, if_true]
    rfl

/-- The block's step before a record that is cut short. -/
theorem openStep_malformed {s : State} {bytes : List Byte} {miss : Truncation} (hopening : s.busyOp = .opening)
    (hstage : s.stage = .fetch) (hlt : s.ptr.toNat < s.scriptLen.toNat)
    (hread : s.script.readBytes s.ptr.toNat (s.scriptLen.toNat - s.ptr.toNat) = some bytes)
    (h : decodeRecord bytes = .error miss) :
    ∃ latch, openStep s = .next (malformedState miss latch s) := by
  have hend : s.ptr ≠ s.scriptLen := fun he => hlt.ne (congrArg BitVec.toNat he)
  have hne : bytes ≠ [] := by
    apply List.ne_nil_of_length_pos
    rw [Memory.readBytes_length hread]
    omega
  have hfetch := fetchBytes_eq_take hread
  rw [List.take_of_length_le (length_le_recordSpan_of_error h)] at hfetch
  exact ⟨_, (openStep_fetch hstage hend hfetch).trans (decodeStep_malformed hopening hne h)⟩

/-- Decoding names the record that is cut short and its place (R119). -/
theorem decodeScript_malformed {before : List Record} (hw : ∀ r ∈ before, r.wf = true) {tail : List Byte}
    (hne : tail ≠ []) {miss : Truncation} (h : decodeRecord tail = .error miss) :
    decodeScript (encodeScript before ++ tail) =
      .error ⟨before.length, miss, (encodeScript before).length⟩ := by
  obtain ⟨b, bs, rfl⟩ := List.exists_cons_of_ne_nil hne
  have hsize := two_mul_length_le_encodeScript before
  obtain ⟨rounds, hrounds⟩ :
      ∃ rounds, (encodeScript before ++ b :: bs).length = rounds + 1 + before.length :=
    ⟨(encodeScript before).length + bs.length - before.length, by
      rw [List.length_append, List.length_cons]
      omega⟩
  rw [decodeScript, hrounds, decodeScriptFrom_encodeScript hw]
  simp only [decodeScriptFrom, h, Except.map, Nat.zero_add]

/-! ### The ends of a run -/

section
variable {s₀ s : State} {before : List Record} {sent : List TxReq} {ts : List Turn}

/-- After the records of the whole script `PTR` is at its end. -/
theorem RunAt.ptr_eq_scriptLen {g : Stage} (h : RunAt s₀ before sent g ts s)
    (hscript : scriptIs (encodeScript before) s₀) : s.ptr = s.scriptLen := by
  apply BitVec.eq_of_toNat_eq
  rw [h.ptr, h.scriptLen, Memory.readBytes_length hscript]

/-- The bytes after the records `before` are those from `PTR` to `SCRIPT_LEN`. -/
theorem RunAt.tailAtPtr {g : Stage} (h : RunAt s₀ before sent g ts s) {tail : List Byte}
    (hscript : scriptIs (encodeScript before ++ tail) s₀) :
    s.scriptLen.toNat = s.ptr.toNat + tail.length
    ∧ s.script.readBytes s.ptr.toNat (s.scriptLen.toNat - s.ptr.toNat) = some tail := by
  have hlen : s.scriptLen.toNat = s.ptr.toNat + tail.length := by
    rw [h.scriptLen, h.ptr, ← Memory.readBytes_length hscript, List.length_append]
  refine ⟨hlen, ?_⟩
  have hread := Memory.readBytes_part hscript (i := s.ptr.toNat) (k := tail.length) (by rw [← h.scriptLen, hlen])
  rw [Nat.zero_add, ← h.script, h.ptr, List.drop_left, List.take_length, ← h.ptr] at hread
  rw [hlen, Nat.add_sub_cancel_left, hread]

/-- The block's turn at the end of the script ends the run (R111). -/
theorem RunAt.finishes (h : RunAt s₀ before [] .fetch (.block :: ts) s)
    (hscript : scriptIs (encodeScript before) s₀) : step s = .next (finishOpen { s with turns := ts }) :=
  h.step_block.trans (openStep_end h.nextTurn.stage (h.ptr_eq_scriptLen hscript))

/-- The block's turn before bytes that are no whole record ends the run (R112). -/
theorem RunAt.malformed (h : RunAt s₀ before [] .fetch (.block :: ts) s) {tail : List Byte} {miss : Truncation}
    (hne : tail ≠ []) (hmiss : decodeRecord tail = .error miss)
    (hscript : scriptIs (encodeScript before ++ tail) s₀) :
    ∃ latch, step s = .next (malformedState miss latch { s with turns := ts }) := by
  obtain ⟨hlen, hread⟩ := h.nextTurn.tailAtPtr hscript
  have hpos := List.length_pos_of_ne_nil hne
  rw [h.step_block]
  exact openStep_malformed h.nextTurn.opening h.nextTurn.stage (by omega) hread hmiss

end

/-! ### Whole runs -/

/-- An OPEN run, every request answered `ok`, replays the whole records at the start of its script. -/
theorem openStart.records {s : State} {rs : List Record} {tail : List Byte} {ts : List Turn}
    (hstart : openStart (encodeScript rs ++ tail) s) (hw : ∀ r ∈ rs, r.wf = true)
    (hturns : s.turns = scriptTurns s.sentCount rs ++ [.block] ++ ts) :
    ∃ t, RunAt s rs [] .fetch (.block :: ts) t
      ∧ runSteps (scriptTurns s.sentCount rs ++ [Turn.block]).length s = step t := by
  have hat := hstart.runAt
  rw [hturns, List.append_assoc] at hat
  obtain ⟨t, ht, hat'⟩ := hat.records hw hstart.scriptIs
  refine ⟨t, hat', ?_⟩
  rw [List.length_append, runSteps_add ht]
  exact runSteps_one t

/-- Settles O50: the script is the encoding of its records; the run replays them, by induction over them, and the
block's last turn finds `PTR` at the end. -/
theorem openRunReplaysTheScript : Obligations.OpenRunReplaysTheScript := by
  intro s bytes rs ts hstart hdecode run hturns
  obtain ⟨hw, rfl⟩ := decodeScript_ok hdecode
  obtain ⟨u, hu, hrun⟩ := openStart.records (tail := []) (by rwa [List.append_nil]) hw hturns
  have hscript := hstart.scriptIs
  refine ⟨_, hrun.trans (hu.finishes hscript), rfl, rfl, rfl, hu.pending, ?_, ?_, hu.recIdx, hu.recDone, rfl⟩
  · simpa using hu.trace
  · exact (hu.ptr_eq_scriptLen hscript).trans hu.scriptLen

/-- Settles O52: the run replays the records before the one that is cut short, by induction over them, and the
block's last turn finds no whole record. -/
theorem malformedScriptSendsThePrefix : Obligations.MalformedScriptSendsThePrefix := by
  intro s before tail miss ts hw hne hmiss hstart run hturns
  refine ⟨decodeScript_malformed hw hne hmiss, ?_⟩
  obtain ⟨u, hu, hrun⟩ := hstart.records hw hturns
  obtain ⟨latch, hend⟩ := hu.malformed hne hmiss hstart.scriptIs
  refine ⟨_, hrun.trans hend, rfl, rfl, rfl, rfl, ?_, hu.recIdx, rfl, ?_, hu.recDone, rfl⟩
  · simpa [malformedState] using hu.trace
  · rw [← hu.ptr]
    exact BitVec.toNat_setWidth_of_le (by decide)

/-! ### Single steps -/

/-- The block's turn in an OPEN run is a step of that run, whether the turn is listed or not. -/
theorem step_openTurn {s : State} {ts : List Turn} (hopening : s.busyOp = .opening)
    (h : s.turns = .block :: ts ∨ s.turns = [] ∧ ts = []) : step s = openStep { s with turns := ts } := by
  obtain h | ⟨h, rfl⟩ := h
  · exact (step_block h).trans (blockStep_opening hopening)
  · rw [step_noTurn h, ← h, blockStep_opening hopening]

/-- Settles O25: the fetch reads all bytes that are left, and their decode step ends the run. -/
theorem malformedRecordEndsTheRun : Obligations.MalformedRecordEndsTheRun := by
  intro s bytes miss ts hopening hstage hlt hread hmiss hturns
  rw [step_openTurn hopening (.inl hturns)]
  exact openStep_malformed (s := { s with turns := ts }) hopening hstage hlt hread hmiss

/-- Settles O24: at the end of the script the block's step is the end of the run. -/
theorem endOfScriptOpensTheSession : Obligations.EndOfScriptOpensTheSession := by
  intro s ts hopening hstage hend hturns
  rw [step_openTurn hopening (.inl hturns)]
  exact openStep_end (s := { s with turns := ts }) hstage hend

/-- Inside a record the block's step runs the latched instruction (R123). -/
theorem blockStep_latched {s : State} (hopening : s.busyOp = .opening)
    (hstage : s.stage = .cmd ∨ s.stage = .data ∨ s.stage = .delay ∨ s.stage = .done) :
    blockStep s = exec (classify s.cfg s.latch.record) s := by
  rw [blockStep_opening hopening, openStep_latched hstage, exec_classify s s.cfg s.latch.record rfl]

/-- Settles O13: the block's turn and the transport's are both the block's step, which runs the latched
instruction. -/
theorem stepGoesOnWithTheLatchedRecord : Obligations.StepGoesOnWithTheLatchedRecord := by
  intro s ts hopening hstage i
  refine ⟨fun h => ?_, fun h => ?_, fun a h hp => ?_⟩
  · exact (step_block h).trans (blockStep_latched (s := { s with turns := ts }) hopening hstage)
  · exact (step_noTurn h).trans (blockStep_latched hopening hstage)
  · exact (step_answer h hp).trans
      (blockStep_latched (s := { s with turns := ts, reply := some a }) hopening hstage)

/-- Settles O12: the record at `PTR` is decoded into the latch, whose instruction is the one the record was
encoded from. -/
theorem stepRunsTheRecordAtPtr : Obligations.StepRunsTheRecordAtPtr := by
  intro s i r ts hi hr hopening hstage hfit hread hturns t
  obtain ⟨hclassify, hw, -⟩ := classify_recordOf hi hr
  have hdecode : step s = .next (latchRecord (encodeRecord r) { s with turns := ts }) := by
    rw [step_openTurn hopening hturns]
    exact openStep_record (s := { s with turns := ts }) hw hstage hfit hread
  have hlatched : classify t.cfg t.latch.record = i := by rw [latch_record, hclassify]
  have hrun : ∀ ts', blockStep { t with turns := ts' } = exec i { t with turns := ts' } := fun ts' => by
    rw [blockStep_latched (s := { t with turns := ts' }) hopening (.inl rfl), hlatched]
  refine ⟨?_, fun hts => (step_noTurn hts).trans (hrun ts), fun ts' hts => (step_block hts).trans (hrun ts')⟩
  rw [hdecode, latchRecord, latchBytes_encodeRecord hw]

end Sys2Proof.Machine

/-! PROOF. The record instructions, each by its own rule (40_script_records.md R113 to R121): what its requests
and its completion do, whatever the format. -/

namespace Sys2Proof.Machine

open Host (Outcome)

/-! ### The bytes of a record with data -/

/-- The bytes of a record of format CN (R93). -/
theorem encodeRecord_cmdData (opcode : Byte) (data : List Byte) :
    encodeRecord ⟨opcode, data, none⟩ = opcode :: BitVec.ofNat 8 data.length :: data := by
  simp [encodeRecord, descByte]

/-- The bytes of a record of format CND (R93). -/
theorem encodeRecord_cmdDataDelay (opcode : Byte) (data : List Byte) (ms : Byte) :
    encodeRecord ⟨opcode, data, some ms⟩ = opcode :: (0x80 ||| BitVec.ofNat 8 data.length) :: data ++ [ms] := by
  simp [encodeRecord, descByte]

/-! ### A request of a record -/

/-- A request that is `transact`'s does what `requestStep` says. -/
theorem requestStep_of_transact {i : Instr} {s : State} {q : TxReq} {field : ErrField} {onOk : State → State}
    (h : exec i s = .next (transact q (recordError field s) onOk s)) (hfield : field.result = .transportFailure) :
    requestStep i q (q.modeAfter s.txMode) field (onOk (acknowledge .ok s)) s := by
  refine ⟨fun hp => ?_, fun hp hr => ?_, fun hp hr => ?_, fun hp hr hopening => ?_⟩
  · rw [h, transact_issues hp]
    rfl
  · rw [h, transact_waits hp hr]
  · rw [h, transact_ok hp hr]
  · rw [h, transact_fail hp hr]
    simp only [raise, recordError, acknowledge_busyOp, hopening, hfield, if_true]
    rfl

/-- The capture at an `ok` to the data (R120, R121). -/
theorem capture_acknowledge (opcode b : Byte) (bs : List Byte) (g : Stage) (s : State) :
    goTo g (capture opcode (b :: bs) (acknowledge .ok s)) =
      capturedState (opcode == s.cfg.opcPixfmt) (opcode == s.cfg.opcMadctl) b (okState g s) := by
  simp [capture_eq, goTo, acknowledge, capturedState, okState, Bool.beq_eq_decide_eq]

theorem stageAfterData_eq (r : Record) :
    stageAfterData r = if r.delay.isSome then Stage.delay else Stage.done := by
  unfold stageAfterData
  cases r.delay <;> rfl

section
variable {i : Instr} {opcode : Byte} {data : List Byte} {delay : Option Byte} {s : State}

theorem requestStep_cmd (hi : recordOf s.cfg i = some ⟨opcode, data, delay⟩) (hs : s.stage = .cmd) :
    requestStep i (.cmd opcode) .cmd .cmdWrite (okState (stageAfterCmd ⟨opcode, data, delay⟩) s) s :=
  requestStep_of_transact ((exec_recordOf hi).trans (runRecord_cmd hs _)) rfl

theorem requestStep_data {b : Byte} {bs : List Byte} (hi : recordOf s.cfg i = some ⟨opcode, b :: bs, delay⟩)
    (hs : s.stage = .data) :
    requestStep i (.data (b :: bs)) .data .dataWrite
      (capturedState (opcode == s.cfg.opcPixfmt) (opcode == s.cfg.opcMadctl) b
        (okState (stageAfterData ⟨opcode, b :: bs, delay⟩) s)) s := by
  rw [← capture_acknowledge opcode b bs]
  exact requestStep_of_transact ((exec_recordOf hi).trans (runRecord_data hs (List.cons_ne_nil b bs))) rfl

theorem requestStep_delay {ms : Byte} (hi : recordOf s.cfg i = some ⟨opcode, data, some ms⟩)
    (hs : s.stage = .delay) :
    requestStep i (.delay ms) s.txMode .delayWait (okState .done s) s :=
  requestStep_of_transact ((exec_recordOf hi).trans (runRecord_delay hs rfl)) rfl

/-- After its last request a record is completed (R117). -/
theorem exec_done (hi : recordOf s.cfg i = some ⟨opcode, data, delay⟩) (hs : s.stage = .done) :
    exec i s = .next (completedState (2 + data.length + delay.isSome.toNat) s) :=
  (exec_recordOf hi).trans (runRecord_done hs _)

/-- The steps of a record of format CN or CND, whose data are captured as those of its opcode. -/
theorem dataRecord_steps {b : Byte} {bs : List Byte} (hi : recordOf s.cfg i = some ⟨opcode, b :: bs, delay⟩) :
    (s.stage = .cmd → requestStep i (.cmd opcode) .cmd .cmdWrite (okState .data s) s)
    ∧ (s.stage = .data →
      requestStep i (.data (b :: bs)) .data .dataWrite
        (capturedState (opcode == s.cfg.opcPixfmt) (opcode == s.cfg.opcMadctl) b
          (okState (if delay.isSome then .delay else .done) s)) s)
    ∧ (∀ ms, delay = some ms → s.stage = .delay →
      requestStep i (.delay ms) s.txMode .delayWait (okState .done s) s)
    ∧ (s.stage = .done →
      exec i s = .next (completedState (2 + (b :: bs).length + delay.isSome.toNat) s)) := by
  refine ⟨requestStep_cmd hi, fun hs => ?_, ?_, exec_done hi⟩
  · have hdata := requestStep_data hi hs
    rwa [stageAfterData_eq] at hdata
  · rintro ms rfl
    exact requestStep_delay hi

end

/-! ### The six instructions -/

/-- Settles O17: its one request is the command, after which it is completed. -/
theorem cmdSendsTheCommand : Obligations.CmdSendsTheCommand := by
  intro opcode s
  have hi : recordOf s.cfg (.cmd opcode) = some ⟨opcode, [], none⟩ := rfl
  exact ⟨congrArg Packet.record (encodeRecord_cmd opcode), requestStep_cmd hi, exec_done hi⟩

/-- Settles O18: its requests are the command and the delay. -/
theorem cmdDelaySendsCommandThenDelay : Obligations.CmdDelaySendsCommandThenDelay := by
  intro opcode ms s
  have hi : recordOf s.cfg (.cmdDelay opcode ms) = some ⟨opcode, [], some ms⟩ := rfl
  exact ⟨congrArg Packet.record (encodeRecord_cmdDelay opcode ms), requestStep_cmd hi, requestStep_delay hi,
    exec_done hi⟩

/-- Settles O19: its requests are the command and the data. -/
theorem cmdDataSendsCommandThenData : Obligations.CmdDataSendsCommandThenData := by
  intro opcode b bs s pixfmt madctl
  have hi : recordOf s.cfg (.cmdData opcode (b :: bs)) = some ⟨opcode, b :: bs, none⟩ := rfl
  exact ⟨fun _ => congrArg Packet.record (encodeRecord_cmdData opcode (b :: bs)), requestStep_cmd hi,
    requestStep_data hi, exec_done hi⟩

/-- Settles O20: its requests are the command, the data and the delay. -/
theorem cmdDataDelaySendsCommandDataDelay : Obligations.CmdDataDelaySendsCommandDataDelay := by
  intro opcode b ms bs s pixfmt madctl
  have hi : recordOf s.cfg (.cmdDataDelay opcode (b :: bs) ms) = some ⟨opcode, b :: bs, some ms⟩ := rfl
  have hlen : 3 + (b :: bs).length = 2 + (b :: bs).length + 1 := by omega
  rw [hlen]
  exact ⟨fun _ => congrArg Packet.record (encodeRecord_cmdDataDelay opcode (b :: bs) ms), requestStep_cmd hi,
    requestStep_data hi, requestStep_delay hi, exec_done hi⟩

/-- Settles O21: the record of `OPC_PIXFMT` runs as any record with data, and its opcode is recognised. -/
theorem snoopPixfmtCapturesTheFirstByte : Obligations.SnoopPixfmtCapturesTheFirstByte := by
  intro b bs delay s i madctl last
  have hi : recordOf s.cfg i = some ⟨s.cfg.opcPixfmt, b :: bs, delay⟩ := rfl
  have hsteps := dataRecord_steps hi
  rwa [beq_self_eq_true] at hsteps

/-- Settles O22: the record of `OPC_MADCTL` runs as any record with data, and its opcode is recognised. -/
theorem snoopMadctlCapturesTheFirstByte : Obligations.SnoopMadctlCapturesTheFirstByte := by
  intro b bs delay s i pixfmt last
  have hi : recordOf s.cfg i = some ⟨s.cfg.opcMadctl, b :: bs, delay⟩ := rfl
  have hsteps := dataRecord_steps hi
  rwa [beq_self_eq_true] at hsteps

end Sys2Proof.Machine

/-! PROOF. The Packer (41_pixel_packer.md R151 to R155): a pixel is its three fields, each at its own place, and
a frame's bytes are those of its pixels, two each. -/

namespace Sys2Proof.Machine

/-! ### The bytes of a frame -/

/-- R155: `PIXEL_BE` says which half of the pixel is the first byte. -/
theorem pixelBytes_eq (be : Bool) (p : Pixel) :
    pixelBytes be p = [p.extractLsb' (if be then 8 else 0) 8, p.extractLsb' (if be then 0 else 8) 8] := by
  cases be <;> rfl

theorem frameBytes_cons (be : Bool) (p : Pixel) (ps : List Pixel) :
    frameBytes be (p :: ps) = p.extractLsb' (if be then 8 else 0) 8
      :: p.extractLsb' (if be then 0 else 8) 8 :: frameBytes be ps := by
  rw [frameBytes, pixelBytes_eq, List.cons_append, List.singleton_append]

theorem frameBytes_length (be : Bool) (ps : List Pixel) : (frameBytes be ps).length = 2 * ps.length := by
  induction ps with
  | nil => rfl
  | cons p ps ih => rw [frameBytes_cons, List.length_cons, List.length_cons, List.length_cons, ih, Nat.mul_succ]

theorem frameBytes_getElem? (be : Bool) {ps : List Pixel} {i : Nat} (h : i < ps.length) :
    (frameBytes be ps)[2 * i]? = some (ps[i].extractLsb' (if be then 8 else 0) 8)
    ∧ (frameBytes be ps)[2 * i + 1]? = some (ps[i].extractLsb' (if be then 0 else 8) 8) := by
  induction ps generalizing i with
  | nil => cases h
  | cons p ps ih =>
    rw [frameBytes_cons]
    cases i with
    | zero => exact ⟨rfl, rfl⟩
    | succ i => exact ih (Nat.lt_of_succ_lt_succ h)

/-- Settles O41, by induction on the frame's pixels. -/
theorem frameBytesHoldEachPixel : Obligations.FrameBytesHoldEachPixel :=
  fun be ps => ⟨frameBytes_length be ps, fun _ h => frameBytes_getElem? be h⟩

/-! ### A field of a word

A word made of fields is the disjunction of its fields' values, each shifted to its place. -/

section
variable {m n w k j : Nat}

theorem extractLsb'_placed (x : BitVec n) (h : k + n ≤ w) : (x.setWidth w <<< k).extractLsb' k n = x := by
  ext i hi
  have hlt : k + i < w := by omega
  simp [hlt, BitVec.getLsbD_eq_getElem hi]

/-- Bits apart from the field are 0. -/
theorem extractLsb'_placed_disjoint (x : BitVec n) (h : j + m ≤ k ∨ k + n ≤ j) :
    (x.setWidth w <<< k).extractLsb' j m = 0#m := by
  ext i hi
  obtain hbelow | habove : j + i < k ∨ n ≤ j + i - k := by omega
  · simp [hbelow]
  · simp [BitVec.getLsbD_of_ge x _ habove]

end

/-! ### The fields of a colour and of a pixel -/

/-- Settles O39: each field is found at its place, and the two others are 0 there. -/
theorem packKeepsTheTopBits : Obligations.PackKeepsTheTopBits := by
  intro c
  rw [pack565, ← BitVec.shiftLeft_zero ((c.extractLsb' 3 5).setWidth 16)]
  simp (disch := omega) only [BitVec.extractLsb'_or, extractLsb'_placed, extractLsb'_placed_disjoint,
    BitVec.or_zero, BitVec.zero_or, and_self]

/-- R154: the channels of an unpacked pixel begin with the pixel's fields. -/
theorem unpack565_topBits (p : Pixel) :
    (unpack565 p).extractLsb' 19 5 = p.extractLsb' 11 5
    ∧ (unpack565 p).extractLsb' 10 6 = p.extractLsb' 5 6
    ∧ (unpack565 p).extractLsb' 3 5 = p.extractLsb' 0 5 := by
  rw [unpack565]
  simp (disch := omega) only [BitVec.extractLsb'_or, extractLsb'_placed, extractLsb'_placed_disjoint,
    BitVec.or_zero, BitVec.zero_or, and_self]

/-- The fields cover the pixel, red highest. -/
theorem pixel_eq_append_fields (p : Pixel) :
    p = p.extractLsb' 11 5 ++ p.extractLsb' 5 6 ++ p.extractLsb' 0 5 :=
  calc
    p = p.extractLsb' 0 16 := BitVec.extractLsb'_eq_self.symm
    _ = p.extractLsb' 5 11 ++ p.extractLsb' 0 5 :=
      (BitVec.extractLsb'_append_extractLsb'_eq_extractLsb' (len₁ := 5) (len₂ := 11) rfl).symm
    _ = p.extractLsb' 11 5 ++ p.extractLsb' 5 6 ++ p.extractLsb' 0 5 :=
      congrArg (· ++ p.extractLsb' 0 5)
        (BitVec.extractLsb'_append_extractLsb'_eq_extractLsb' (len₁ := 6) (len₂ := 5) rfl).symm

theorem pack565_unpack565 (p : Pixel) : pack565 (unpack565 p) = p := by
  obtain ⟨hpackRed, hpackGreen, hpackBlue⟩ := packKeepsTheTopBits (unpack565 p)
  obtain ⟨hred, hgreen, hblue⟩ := unpack565_topBits p
  rw [pixel_eq_append_fields (pack565 (unpack565 p)), hpackRed, hpackGreen, hpackBlue, hred, hgreen, hblue,
    ← pixel_eq_append_fields]

/-- Settles O40: the fields of the packed pixel are the top bits of the channels, and these are the fields of
the pixel unpacked. -/
theorem packOfUnpackIsThePixel : Obligations.PackOfUnpackIsThePixel :=
  ⟨pack565_unpack565, fun c => pack565_unpack565 (pack565 c)⟩

end Sys2Proof.Machine

/-! PROOF. The Resolver (42_compositor.md R171 to R174, R181): which slot of the stack a surface cell takes its
colour from, and which cell of the stack's bitmaps validation reports. -/

namespace Sys2Proof.Machine

/-! ### The topmost covering slot -/

theorem stack_getElem? (s : State) (k : Nat) :
    (stack s)[k]? = if k < s.layerCount.toNat then s.layers[k]? else none := List.getElem?_take

theorem covers_iff {s : State} {l : Placement} {X Y : Nat} :
    covers s l X Y = true ↔ l.visible = true ∧ l.x0 ≤ X ∧ (X : Int) < l.x0 + bmpW s l.bmp
      ∧ l.y0 ≤ Y ∧ (Y : Int) < l.y0 + bmpH s l.bmp := by
  simp only [covers, Bool.and_eq_true, decide_eq_true_eq, and_assoc]

/-- The last match, which a fold keeps, is the first match from the other end. -/
theorem foldl_last_eq_find?_reverse {α : Type} (p : α → Bool) (xs : List α) :
    xs.foldl (fun top x => if p x then some x else top) none = xs.reverse.find? p := by
  induction xs using List.reverseRecOn with
  | nil => rfl
  | append_singleton xs x ih =>
    rw [List.foldl_append, ih, List.reverse_append, List.reverse_singleton, List.singleton_append, List.find?_cons]
    cases hx : p x <;> simp [hx]

/-- The stack searched from its front slot backwards (R173). -/
theorem topmost_eq_find? (s : State) (X Y : Nat) :
    topmost s X Y = (stack s).reverse.find? (fun l => covers s l X Y) :=
  foldl_last_eq_find?_reverse _ _

theorem topmost_eq_none {s : State} {X Y : Nat} (h : ∀ l ∈ stack s, ¬ covers s l X Y = true) :
    topmost s X Y = none := by
  rw [topmost_eq_find?, List.find?_eq_none]
  exact fun l hl => h l (List.mem_reverse.1 hl)

theorem topmost_eq_some {s : State} {X Y : Nat} {below above : List Placement} {l : Placement}
    (hstack : stack s = below ++ l :: above) (hl : covers s l X Y = true)
    (habove : ∀ m ∈ above, ¬ covers s m X Y = true) : topmost s X Y = some l := by
  have hnone : above.reverse.find? (fun l => covers s l X Y) = none :=
    List.find?_eq_none.2 fun m hm => habove m (List.mem_reverse.1 hm)
  rw [topmost_eq_find?, hstack]
  simp [hnone, hl]

theorem resolve_background {s : State} {X Y : Nat} (h : topmost s X Y = none) :
    resolve s X Y = s.cfg.backgroundRgb := by
  rw [resolve, h]

theorem resolve_slot {s : State} {X Y : Nat} {l : Placement} {v : Index} {c : Rgb} (h : topmost s X Y = some l)
    (hv : bmpRead? s l.bmp (X - l.x0).toNat (Y - l.y0).toNat = some v) (hc : palRead? s l.pal v.toNat = some c) :
    resolve s X Y = c := by
  simp only [resolve, h, hv, hc, Option.getD_some]

/-- Settles O42: the colour is that of the topmost covering slot, which is the last of the stack that covers. -/
theorem resolveTakesTheTopmost : Obligations.ResolveTakesTheTopmost := by
  intro s X Y
  simp only [← covers_iff]
  exact ⟨stack_getElem? s, fun h => resolve_background (topmost_eq_none h),
    fun _ _ _ hstack hl habove _ _ hv hc => resolve_slot (topmost_eq_some hstack hl habove) hv hc⟩

/-- Settles O46: no slot of an empty stack covers a cell. -/
theorem emptyStackIsBackground : Obligations.EmptyStackIsBackground := by
  intro s h
  have hstack : stack s = [] := by rw [stack, h]; exact List.take_zero
  have hcell : ∀ X Y, resolve s X Y = s.cfg.backgroundRgb :=
    fun X Y => resolve_background (topmost_eq_none (by simp [hstack]))
  simp only [resolveFrame, hcell, List.map_const', List.length_range]
  rfl

/-! ### Searching a list with its places -/

section
variable {α β : Type} {xs : List α} {f : α × Nat → Option β}

theorem findSome?_zipIdx_eq_none_iff :
    xs.zipIdx.findSome? f = none ↔ ∀ i a, xs[i]? = some a → f (a, i) = none := by
  rw [List.findSome?_eq_none_iff]
  exact ⟨fun h i a hi => h (a, i) (List.mk_mem_zipIdx_iff_getElem?.2 hi),
    fun h p hp => h p.2 p.1 (List.mem_zipIdx_iff_getElem?.1 hp)⟩

theorem findSome?_zipIdx_eq_some {b : β} (h : xs.zipIdx.findSome? f = some b) :
    ∃ i a, xs[i]? = some a ∧ f (a, i) = some b ∧ ∀ j < i, ∀ a', xs[j]? = some a' → f (a', j) = none := by
  obtain ⟨before, p, after, hsplit, hp, hbefore⟩ := List.findSome?_eq_some_iff.1 h
  have hplace : ∀ j, (before ++ p :: after)[j]? = xs[j]?.map (·, j) := fun j => by
    rw [← hsplit, List.getElem?_zipIdx, Nat.zero_add]
  have hp' : xs[before.length]?.map (·, before.length) = some p := by rw [← hplace]; simp
  obtain ⟨a, ha, rfl⟩ := Option.map_eq_some_iff.1 hp'
  refine ⟨before.length, a, ha, hp, fun j hj a' ha' => hbefore _ (List.mem_of_getElem? (i := j) ?_)⟩
  rw [← List.getElem?_append_left hj, hplace, ha']
  rfl

end

/-! ### The cells of a slot's bitmap -/

/-- Every cell of the bitmap of placement `l` is below the size of its palette (R172). -/
def cellsValid (s : State) (l : Placement) : Prop :=
  ∀ x y v, bmpRead? s l.bmp x y = some v → v.toNat < palN s l.pal

section
variable {s : State} {b : Nat} {bmp : Bitmap}

theorem bmpRead?_eq_some_iff (hb : s.bitmaps[b]? = some bmp) {x y : Nat} {v : Index} :
    bmpRead? s b x y = some v ↔ x < bmp.w ∧ y < bmp.h ∧ bmp.cells[y * bmp.w + x]? = some v := by
  simp only [bmpRead?, hb, Option.ite_none_right_eq_some, and_assoc]

/-- The cell at place `i` of the list is read at its column and row (10_state.md R37). -/
theorem bmpRead?_place (hb : s.bitmaps[b]? = some bmp) (hlen : bmp.cells.length = bmp.w * bmp.h) {i : Nat}
    {v : Index} (hi : bmp.cells[i]? = some v) : bmpRead? s b (i % bmp.w) (i / bmp.w) = some v := by
  obtain ⟨hlt, -⟩ := List.getElem?_eq_some_iff.1 hi
  rw [hlen] at hlt
  have hw : 0 < bmp.w := Nat.pos_of_mul_pos_right (Nat.zero_lt_of_lt hlt)
  rw [bmpRead?_eq_some_iff hb, Nat.div_add_mod']
  exact ⟨Nat.mod_lt i hw, Nat.div_lt_of_lt_mul hlt, hi⟩

/-- A bitmap with all its cells has one at each place inside it. -/
theorem bmpRead?_exists (hb : s.bitmaps[b]? = some bmp) (hlen : bmp.cells.length = bmp.w * bmp.h) {x y : Nat}
    (hx : x < bmpW s b) (hy : y < bmpH s b) : ∃ v, bmpRead? s b x y = some v := by
  simp only [bmpW, bmpH, hb] at hx hy
  exact ⟨_, (bmpRead?_eq_some_iff hb).2
    ⟨hx, hy, List.getElem?_eq_getElem (by rw [hlen]; exact cellPlace_lt hx hy)⟩⟩

theorem bmpRead?_inside (hb : s.bitmaps[b]? = some bmp) {x y : Nat} {v : Index}
    (h : bmpRead? s b x y = some v) : x < bmpW s b ∧ y < bmpH s b := by
  obtain ⟨hx, hy, -⟩ := (bmpRead?_eq_some_iff hb).1 h
  simp only [bmpW, bmpH, hb]
  exact ⟨hx, hy⟩

end

/-- A cell before column `i % w` and row `i / w` in raster order stands before place `i`. -/
theorem cellPlace_lt_of_before {w x y i : Nat} (hx : x < w) (h : y < i / w ∨ y = i / w ∧ x < i % w) :
    y * w + x < i := by
  obtain hrow | ⟨rfl, hcol⟩ := h
  · exact (cellPlace_lt hx hrow).trans_le (Nat.mul_div_le i w)
  · have := Nat.div_add_mod' i w
    omega

/-! ### Validation -/

section
variable {s : State} {l : Placement} {bmp : Bitmap} {k : Nat}

theorem firstInvalidCell_eq_none_iff (hb : s.bitmaps[l.bmp]? = some bmp)
    (hlen : bmp.cells.length = bmp.w * bmp.h) : firstInvalidCell s k l = none ↔ cellsValid s l := by
  simp only [firstInvalidCell, hb, findSome?_zipIdx_eq_none_iff, ite_eq_right_iff, reduceCtorEq, imp_false,
    Nat.not_le]
  constructor
  · intro h x y v hv
    obtain ⟨-, -, hcell⟩ := (bmpRead?_eq_some_iff hb).1 hv
    exact h _ v hcell
  · exact fun h i v hi => h _ _ v (bmpRead?_place hb hlen hi)

theorem firstInvalidCell_eq_some (hb : s.bitmaps[l.bmp]? = some bmp)
    (hlen : bmp.cells.length = bmp.w * bmp.h) {c : BadCell} (h : firstInvalidCell s k l = some c) :
    c.layer = k ∧ bmpRead? s l.bmp c.x c.y = some c.value ∧ palN s l.pal ≤ c.value.toNat
      ∧ ∀ x y, y < c.y ∨ y = c.y ∧ x < c.x → ∀ v, bmpRead? s l.bmp x y = some v → v.toNat < palN s l.pal := by
  simp only [firstInvalidCell, hb] at h
  obtain ⟨i, v, hi, hbad, hbefore⟩ := findSome?_zipIdx_eq_some h
  obtain ⟨hle, hc⟩ := Option.ite_none_right_eq_some.1 hbad
  cases hc
  refine ⟨rfl, bmpRead?_place hb hlen hi, hle, fun x y hxy v hv => ?_⟩
  obtain ⟨hx, -, hcell⟩ := (bmpRead?_eq_some_iff hb).1 hv
  simpa using hbefore _ (cellPlace_lt_of_before hx hxy) v hcell

end

/-- The slots that validation looks at have bitmaps with all their cells. -/
theorem State.Legal.slotBitmap {s : State} (h : s.Legal) {k : Nat} {l : Placement} (hl : (stack s)[k]? = some l) :
    ∃ bmp, s.bitmaps[l.bmp]? = some bmp ∧ bmp.cells.length = bmp.w * bmp.h := by
  obtain ⟨bmp, hb, -, -, hlen, -⟩ := h.stackBitmap (List.mem_of_getElem? hl)
  exact ⟨bmp, hb, hlen⟩

theorem State.Legal.slot_exists {s : State} (h : s.Legal) {k : Nat} (hk : k < s.layerCount.toNat) :
    ∃ l, s.layers[k]? = some l :=
  ⟨_, List.getElem?_eq_getElem (h.slotCount ▸ hk.trans_le h.stackSize)⟩

theorem stack_eq_some_iff {s : State} {k : Nat} {l : Placement} :
    (stack s)[k]? = some l ↔ k < s.layerCount.toNat ∧ s.layers[k]? = some l := by
  rw [stack_getElem?, Option.ite_none_right_eq_some]

theorem cellsValid_iff {s : State} {l : Placement} {bmp : Bitmap} (hb : s.bitmaps[l.bmp]? = some bmp)
    (hlen : bmp.cells.length = bmp.w * bmp.h) :
    cellsValid s l ↔ ∀ x < bmpW s l.bmp, ∀ y < bmpH s l.bmp,
      ∃ v, bmpRead? s l.bmp x y = some v ∧ v.toNat < palN s l.pal := by
  constructor
  · intro h x hx y hy
    obtain ⟨v, hv⟩ := bmpRead?_exists hb hlen hx hy
    exact ⟨v, hv, h x y v hv⟩
  · intro h x y v hv
    obtain ⟨hx, hy⟩ := bmpRead?_inside hb hv
    obtain ⟨v', hv', hlt⟩ := h x hx y hy
    obtain rfl : v' = v := Option.some.inj (hv'.symm.trans hv)
    exact hlt

theorem State.Legal.firstInvalid_eq_none_iff {s : State} (h : s.Legal) :
    firstInvalid s = none ↔ ∀ (k : Nat) (l : Placement), (stack s)[k]? = some l → cellsValid s l := by
  refine findSome?_zipIdx_eq_none_iff.trans ?_
  refine forall₂_congr fun k l => forall_congr' fun hl => ?_
  obtain ⟨bmp, hb, hlen⟩ := h.slotBitmap hl
  exact firstInvalidCell_eq_none_iff hb hlen

/-- The reported cell is the first of its slot, and the slots below are valid. -/
theorem State.Legal.firstInvalid_eq_some {s : State} (h : s.Legal) {c : BadCell} (hc : firstInvalid s = some c) :
    ∃ l, (stack s)[c.layer]? = some l ∧ firstInvalidCell s c.layer l = some c
      ∧ ∀ k < c.layer, ∀ m, (stack s)[k]? = some m → cellsValid s m := by
  obtain ⟨k, l, hl, hcell, hbelow⟩ := findSome?_zipIdx_eq_some hc
  obtain ⟨bmp, hb, hlen⟩ := h.slotBitmap hl
  obtain ⟨rfl, -⟩ := firstInvalidCell_eq_some hb hlen hcell
  refine ⟨l, hl, hcell, fun k hk m hm => ?_⟩
  obtain ⟨bmp', hb', hlen'⟩ := h.slotBitmap hm
  exact (firstInvalidCell_eq_none_iff hb' hlen').1 (hbelow k hk m hm)

/-- Settles O43: the search goes through the slots of the stack in order, and through each one's cells row by
row. -/
theorem validationFindsTheFirstInvalidCell : Obligations.ValidationFindsTheFirstInvalidCell := by
  intro s h
  refine ⟨h.firstInvalid_eq_none_iff.trans ⟨fun hvalid k hk => ?_, fun hvalid k l hl => ?_⟩, fun c hc => ?_⟩
  · obtain ⟨l, hl⟩ := h.slot_exists hk
    have hslot := stack_eq_some_iff.2 ⟨hk, hl⟩
    obtain ⟨bmp, hb, hlen⟩ := h.slotBitmap hslot
    exact ⟨l, hl, (cellsValid_iff hb hlen).1 (hvalid k l hslot)⟩
  · obtain ⟨hk, hlayer⟩ := stack_eq_some_iff.1 hl
    obtain ⟨bmp, hb, hlen⟩ := h.slotBitmap hl
    obtain ⟨l', hl', hcells⟩ := hvalid k hk
    obtain rfl : l' = l := Option.some.inj (hl'.symm.trans hlayer)
    exact (cellsValid_iff hb hlen).2 hcells
  · obtain ⟨l, hl, hcell, hbelow⟩ := h.firstInvalid_eq_some hc
    obtain ⟨hk, hlayer⟩ := stack_eq_some_iff.1 hl
    obtain ⟨bmp, hb, hlen⟩ := h.slotBitmap hl
    obtain ⟨-, hread, hbad, hbefore⟩ := firstInvalidCell_eq_some hb hlen hcell
    exact ⟨hk, l, hlayer, hread, hbad, hbefore,
      fun j hj m hm => hbelow j hj m (stack_eq_some_iff.2 ⟨hj.trans hk, hm⟩)⟩

end Sys2Proof.Machine

/-! PROOF. The steps of a COMMIT run, each by its phase (42_compositor.md R172, R176, R177): what validation, the
resolve phase and the stream do, and what a COMMIT run can send. -/

namespace Sys2Proof.Machine

open Host (Outcome)

/-! ### The turns of a COMMIT run -/

theorem step_commitTurn {s : State} {ts : List Turn} (hcommitting : s.busyOp = .committing)
    (hturns : s.turns = .block :: ts) : step s = commitStep { s with turns := ts } :=
  (step_block hturns).trans (blockStep_committing hcommitting)

theorem step_commitAnswer {s : State} {a : Answer} {ts : List Turn} (hcommitting : s.busyOp = .committing)
    (hturns : s.turns = .answer s.sentCount a :: ts) (hp : s.pending ≠ none) :
    step s = commitStep { s with turns := ts, reply := some a } :=
  (step_answer hturns hp).trans (blockStep_committing hcommitting)

/-! ### Validation and the resolve phase -/

theorem validateStack_invalid {s : State} {c : BadCell} (h : stackObjectsExist s = true)
    (hc : firstInvalid s = some c) : validateStack s = .next (raise (invalidIndex c) s) := by
  simp only [validateStack, h, hc, if_true]

/-- Settles O44: the step raises the error in a COMMIT run, which leaves the session as it is. -/
theorem invalidIndexSendsNothing : Obligations.InvalidIndexSendsNothing := by
  intro s c ts h hcommitting hstage hc hturns
  have hrun := h.committingRun hcommitting
  simp only [commitLegal, hstage] at hrun
  obtain ⟨hpending, -⟩ := hrun
  calc step s = commitStep { s with turns := ts } := step_commitTurn hcommitting hturns
    _ = validateStack { s with turns := ts } := commitStep_validate hstage
    _ = .next (raise (invalidIndex c) { s with turns := ts }) :=
      validateStack_invalid (h.withTurns ts).objectsExist hc
    _ = _ := by simp [raise, hcommitting, hpending, invalidIndex, ErrField.result]

/-- The pixel of the surface cell (X, Y) stands in raster order (R174). -/
theorem resolveFrame_getElem? (s : State) {X Y : Nat} (hX : X < s.cfg.frameW) (hY : Y < s.cfg.frameH) :
    (resolveFrame s)[Y * s.cfg.frameW + X]? = some (pack565 (resolve s X Y)) := by
  have hlt : Y * s.cfg.frameW + X < s.cfg.framePixels := cellPlace_lt hX hY
  have hcol : (Y * s.cfg.frameW + X) % s.cfg.frameW = X := by
    rw [Nat.mul_add_mod', Nat.mod_eq_of_lt hX]
  have hrow : (Y * s.cfg.frameW + X) / s.cfg.frameW = Y := by
    rw [Nat.add_comm, Nat.add_mul_div_right X Y (Nat.zero_lt_of_lt hX), Nat.div_eq_of_lt hX, Nat.zero_add]
  rw [resolveFrame, List.getElem?_map, List.getElem?_range hlt, Option.map_some, hcol, hrow]

/-- Settles O45: a valid stack goes on to the resolve phase, which stores the resolved frame. -/
theorem frameInRasterOrder : Obligations.FrameInRasterOrder := by
  intro s ts h hcommitting hturns
  refine ⟨fun hstage hvalid => step_validate hturns hcommitting hstage h.objectsExist hvalid, fun hstage => ?_⟩
  have hrun := h.committingRun hcommitting
  simp only [commitLegal, hstage] at hrun
  obtain ⟨-, -, hvalid⟩ := hrun
  exact ⟨storeFrame { s with turns := ts }, step_resolve hturns hcommitting hstage h.objectsExist hvalid, rfl,
    resolveFrame_length s, fun X hX Y hY => resolveFrame_getElem? s hX hY⟩

/-! ### The stream phase -/

/-- The default chunk of a row is the row (R178). -/
theorem chunkEnd_row {c : Config} (hc : c.chunking = .perRow) (hw : 0 < c.frameW) (Y : Nat) :
    chunkEnd c (Y * c.frameW) = (Y + 1) * c.frameW := by
  simp only [chunkEnd, hc, Nat.mul_div_cancel Y hw]

theorem chunkEndsOk_lt {start total : Nat} {ends : List Nat} (h : chunkEndsOk start total ends = true) :
    ∀ e ∈ ends, start < e ∧ e ≤ total := by
  induction ends generalizing start with
  | nil => exact fun e he => nomatch he
  | cons e es ih =>
    obtain ⟨hlt, hrest⟩ := chunkEndsOk_cons.1 h
    refine List.forall_mem_cons.2 ⟨⟨hlt, chunkEndsOk_le hrest⟩, fun d hd => ?_⟩
    obtain ⟨hed, hd'⟩ := ih hrest d hd
    exact ⟨hlt.trans hed, hd'⟩

/-- The first listed end above a pixel of the frame is the least one above it. -/
theorem chunkEndsOk_find? {start total pos : Nat} {ends : List Nat} (h : chunkEndsOk start total ends = true)
    (hstart : start ≤ pos) (hpos : pos < total) :
    ∃ e ∈ ends, ends.find? (fun e => pos < e) = some e ∧ ∀ d ∈ ends, pos < d → e ≤ d := by
  induction ends generalizing start with
  | nil =>
    have hend : start = total := beq_iff_eq.1 h
    omega
  | cons e es ih =>
    obtain ⟨-, hrest⟩ := chunkEndsOk_cons.1 h
    by_cases he : pos < e
    · refine ⟨e, List.mem_cons_self, by simp [he], List.forall_mem_cons.2 ⟨fun _ => le_rfl, fun d hd _ => ?_⟩⟩
      exact (chunkEndsOk_lt hrest d hd).1.le
    · obtain ⟨e', hmem, hfind, hleast⟩ := ih hrest (Nat.le_of_not_lt he)
      exact ⟨e', List.mem_cons_of_mem e hmem, by simpa [he] using hfind,
        List.forall_mem_cons.2 ⟨fun hlt => absurd hlt he, hleast⟩⟩

/-- Under another partition the chunk ends at the next listed end (R177). -/
theorem chunkEnd_listed {c : Config} {ends : List Nat} (hc : c.chunking = .endsAt ends)
    (hends : chunkEndsOk 0 c.framePixels ends = true) {pos : Nat} (hpos : pos < c.framePixels) :
    chunkEnd c pos ∈ ends ∧ ∀ e ∈ ends, pos < e → chunkEnd c pos ≤ e := by
  obtain ⟨e, hmem, hfind, hleast⟩ := chunkEndsOk_find? hends (Nat.zero_le pos) hpos
  have hend : chunkEnd c pos = e := by
    simp only [chunkEnd, hc, hfind, Nat.min_eq_left (chunkEndsOk_lt hends e hmem).2]
  rw [hend]
  exact ⟨hmem, hleast⟩

/-- Settles O47, by the two kinds of partition. -/
theorem chunksPartitionTheFrame : Obligations.ChunksPartitionTheFrame := by
  intro c h
  obtain ⟨hw, -, hchunks⟩ := wf_frame h
  refine ⟨fun pos hpos => ⟨lt_chunkEnd hw hpos, chunkEnd_le_framePixels hpos⟩, fun hc Y => chunkEnd_row hc hw Y,
    fun ends hc pos hpos => ?_⟩
  rw [hc] at hchunks
  exact chunkEnd_listed hc hchunks hpos

/-- In a legal state of the stream phase, whatever the line and the turns, the block's step is the request of the
chunk at `CHUNK_POS`. -/
theorem State.Legal.commitStep_nextChunk {s : State} (h : s.Legal) (hcommitting : s.busyOp = .committing)
    (hstage : s.stage = .stream) (hpos : s.chunkPos < s.cfg.framePixels) (ts : List Turn) (reply : Option Answer) :
    let e := chunkEnd s.cfg s.chunkPos
    commitStep { s with turns := ts, reply := reply }
      = .next (transact (.data (chunkBytes s s.chunkPos e)) (chunkError s.chunkPos) (chunkSent e)
          { s with turns := ts, reply := reply }) := by
  have hrun := h.committingRun hcommitting
  simp only [commitLegal, hstage] at hrun
  obtain ⟨hframe, -⟩ := hrun
  exact (commitStep_stream (s := { s with turns := ts, reply := reply }) hstage).trans
    (streamChunk_chunk hpos (hframe ▸ chunkEnd_le_framePixels hpos))

/-- Settles O48: the block's turn issues the chunk's request, and an answer's turn takes its answer. -/
theorem streamSendsTheNextChunk : Obligations.StreamSendsTheNextChunk := by
  intro s ts h hcommitting hstage hpos e r
  have hstep := h.commitStep_nextChunk hcommitting hstage hpos ts
  have hreply := h.replyTaken
  refine ⟨fun hp hturns => ?_, fun hp hturns => ?_, fun hp hturns => ?_⟩
  · rw [step_commitTurn hcommitting hturns]
    refine (hstep s.reply).trans ?_
    rw [transact_issues (s := { s with turns := ts }) hp]
    rfl
  · rw [step_commitAnswer hcommitting hturns hp, hstep, transact_ok (by exact hp) rfl]
    simp [chunkSent, acknowledge, hreply, e]
  · rw [step_commitAnswer hcommitting hturns hp, hstep, transact_fail (by exact hp) rfl]
    simp [raise, acknowledge, hreply, hcommitting, chunkError, ErrField.result]

/-- Settles O49: at the end of the frame the block's step is the end of the run. -/
theorem streamEndsWithTheFrame : Obligations.StreamEndsWithTheFrame := by
  intro s ts hcommitting hstage hend hturns
  calc step s = commitStep { s with turns := ts } := step_commitTurn hcommitting hturns
    _ = streamChunk { s with turns := ts } := commitStep_stream hstage
    _ = _ := streamChunk_end hend.ge

/-! ### What a COMMIT run sends -/

/-- From `s` to `t` a data request is sent, if any is. -/
def sendsDataOnly (s t : State) : Prop :=
  t.trace = s.trace ∨ (∃ bs, t.trace = s.trace ++ [.sent (.data bs)]) ∨ ∃ a, t.trace = s.trace ++ [.answered a]

theorem transact_sendsDataOnly (bs : List Byte) (failure : ErrRegs) (e : Nat) (s : State) :
    sendsDataOnly s (transact (.data bs) failure (chunkSent e) s) := by
  obtain ⟨-, h⟩ | ⟨-, -, h⟩ | ⟨-, -, h⟩ | ⟨-, -, h⟩ := transact_cases (.data bs) failure (chunkSent e) s <;> rw [h]
  · exact .inr (.inl ⟨bs, rfl⟩)
  · exact .inl rfl
  · exact .inr (.inr ⟨.ok, rfl⟩)
  · exact .inr (.inr ⟨.fail, rfl⟩)

/-- The ways a block step of a COMMIT run answers next. -/
theorem commitStep_cases {s t : State} (h : commitStep s = .next t) :
    (∃ c, t = raise (invalidIndex c) s) ∨ t = goTo .resolve s ∨ t = storeFrame s ∨ t = finishCommit s
    ∨ ∃ bs failure e, t = transact (.data bs) failure (chunkSent e) s := by
  match hs : s.stage with
  | .validate =>
    rw [commitStep_validate hs, validateStack] at h
    split at h
    · split at h <;> cases h
      · exact .inl ⟨_, rfl⟩
      · exact .inr (.inl rfl)
    · cases h
  | .resolve =>
    rw [commitStep_resolve hs, resolveStack] at h
    split at h <;> cases h
    exact .inr (.inr (.inl rfl))
  | .stream =>
    rw [commitStep_stream hs, streamChunk] at h
    split at h
    · cases h
      exact .inr (.inr (.inr (.inl rfl)))
    · split at h <;> cases h
      exact .inr (.inr (.inr (.inr ⟨_, _, _, rfl⟩)))
  | .fetch | .cmd | .data | .delay | .done => simp only [commitStep, hs, reduceCtorEq] at h

theorem commitStep_sendsDataOnly {s t : State} (h : commitStep s = .next t) : sendsDataOnly s t := by
  obtain ⟨c, rfl⟩ | rfl | rfl | rfl | ⟨bs, failure, e, rfl⟩ := commitStep_cases h
  · exact .inl rfl
  · exact .inl rfl
  · exact .inl rfl
  · exact .inl rfl
  · exact transact_sendsDataOnly bs failure e s

theorem hostStep_trace {q : HostReq} {s t : State} (h : hostStep q s = .next t) : t.trace = s.trace := by
  obtain ⟨resp, rfl⟩ | ⟨-, i, -, rfl⟩ := hostStep_cases h
  · rfl
  · exact (hostEffect_cfg_trace i s).2

/-- Whoever moves next: the host and a reset send nothing, and an answer that is taken is a step of the run. -/
theorem step_sendsDataOnly {s t : State} (hcommitting : s.busyOp = .committing) (h : step s = .next t) :
    sendsDataOnly s t := by
  match hturns : s.turns with
  | [] =>
    rw [step_noTurn hturns, blockStep_committing hcommitting] at h
    exact commitStep_sendsDataOnly h
  | .block :: ts =>
    rw [step_commitTurn hcommitting hturns] at h
    exact commitStep_sendsDataOnly (s := { s with turns := ts }) h
  | .host q :: ts =>
    rw [step_host hturns] at h
    exact .inl (hostStep_trace (s := { s with turns := ts }) h)
  | .answer n a :: ts =>
    obtain ⟨hp, rfl, -⟩ | ⟨-, hstep⟩ := step_answer_cases hturns
    · rw [step_commitAnswer hcommitting hturns hp] at h
      exact commitStep_sendsDataOnly (s := { s with turns := ts, reply := some a }) h
    · cases hstep.symm.trans h
      exact .inl rfl
  | .reset :: ts =>
    cases (step_reset hturns).symm.trans h
    exact .inl rfl

/-- Settles O59: the request that is sent is the one by which the trace grows. -/
theorem commitSendsDataOnly : Obligations.CommitSendsDataOnly := by
  intro s t r hcommitting h hsent
  obtain htrace | ⟨bs, htrace⟩ | ⟨a, htrace⟩ := step_sendsDataOnly hcommitting h
  · simp [htrace] at hsent
  · exact ⟨bs, by simpa [htrace] using hsent.symm⟩
  · simp [htrace] at hsent

end Sys2Proof.Machine

/-! PROOF. The legal states as an invariant (10_state.md, 20_memory.md R60): each update that a step makes leads
from a legal state to a legal state, so no legal state stops, and every step keeps them. -/

namespace Sys2Proof.Machine

open Host (Outcome)

/-! ### Where a legal run stands -/

/-- The requests of a record: its command write, its data if it has any, its delay if it has one. -/
theorem mem_recordRequests {r : Record} {q : TxReq} :
    q ∈ recordRequests r ↔
      q = .cmd r.opcode ∨ (r.data ≠ [] ∧ q = .data r.data) ∨ ∃ ms, r.delay = some ms ∧ q = .delay ms := by
  obtain ⟨opcode, data, delay⟩ := r
  cases data <;> cases delay <;> simp [recordRequests]

theorem data_suffix_recordRequests {r : Record} (h : r.data ≠ []) :
    ∃ left, (.data r.data :: left) <:+ recordRequests r := by
  obtain ⟨opcode, data, delay⟩ := r
  cases data with
  | nil => exact absurd rfl h
  | cons b bs => exact ⟨_, List.suffix_cons ..⟩

theorem delay_suffix_recordRequests {r : Record} {ms : Byte} (h : r.delay = some ms) :
    [.delay ms] <:+ recordRequests r := by
  simp only [recordRequests, h]
  exact (List.suffix_append ..).trans (List.suffix_cons ..)

/-- The OPEN run stands before the request `q` of the latched record, after which `left` are to be sent. -/
structure AtRequest (q : TxReq) (left : List TxReq) (s : State) : Prop where
  stage : s.stage = requestStage q
  suffix : (q :: left) <:+ recordRequests s.latch.record
  latched : latchAtPtr s

/-- An OPEN run stands before a record, at one of a record's requests, or after the last of them. -/
theorem openLegal_cases {s : State} (h : openLegal s) :
    (s.stage = .fetch ∧ s.pending = none ∧ s.ptr.toNat ≤ s.scriptLen.toNat)
    ∨ (∃ q left, AtRequest q left s ∧ pendingIs q s)
    ∨ s.stage = .done ∧ latchAtPtr s ∧ s.pending = none := by
  unfold openLegal at h
  match hs : s.stage with
  | .fetch => exact .inl ⟨rfl, by simpa only [hs] using h⟩
  | .cmd =>
    simp only [hs] at h
    obtain ⟨hlatch, hp⟩ := h
    exact .inr (.inl ⟨.cmd s.latch.opc, _, ⟨hs, List.suffix_rfl, hlatch⟩, hp⟩)
  | .data =>
    simp only [hs] at h
    obtain ⟨hlatch, hdata, hp⟩ := h
    obtain ⟨left, hleft⟩ := data_suffix_recordRequests (r := s.latch.record) hdata
    exact .inr (.inl ⟨.data s.latch.dbuf, left, ⟨hs, hleft, hlatch⟩, hp⟩)
  | .delay =>
    simp only [hs] at h
    obtain ⟨hlatch, hflag, hp⟩ := h
    exact .inr (.inl ⟨.delay s.latch.dms, [], ⟨hs, delay_suffix_recordRequests (if_pos hflag), hlatch⟩, hp⟩)
  | .done => exact .inr (.inr ⟨rfl, by simpa only [hs] using h⟩)
  | .validate | .resolve | .stream => simp only [hs] at h

theorem AtRequest.openLegal {q : TxReq} {left : List TxReq} {s : State} (h : AtRequest q left s)
    (hp : pendingIs q s) : openLegal s := by
  obtain ⟨hs, hsuffix, hlatch⟩ := h
  obtain rfl | ⟨hdata, rfl⟩ | ⟨ms, hms, rfl⟩ := mem_recordRequests.1 (hsuffix.subset List.mem_cons_self)
  · simp only [Machine.openLegal, hs, requestStage]
    exact ⟨hlatch, hp⟩
  · simp only [Machine.openLegal, hs, requestStage]
    exact ⟨hlatch, hdata, hp⟩
  · obtain ⟨hflag, hms⟩ := Option.ite_none_right_eq_some.1 hms
    cases hms
    simp only [Machine.openLegal, hs, requestStage]
    exact ⟨hlatch, hflag, hp⟩

/-- Between two requests, and after the last. -/
theorem openLegal_of_stageBefore {left : List TxReq} {s : State} (hs : s.stage = stageBefore left)
    (hsuffix : left <:+ recordRequests s.latch.record) (hlatch : latchAtPtr s) (hp : s.pending = none) :
    openLegal s := by
  cases left with
  | nil =>
    simp only [openLegal, hs, stageBefore]
    exact ⟨hlatch, hp⟩
  | cons q left => exact AtRequest.openLegal ⟨hs, hsuffix, hlatch⟩ (.inl hp)

theorem openLegal_fetch {s : State} (hs : s.stage = .fetch) :
    openLegal s ↔ s.pending = none ∧ s.ptr.toNat ≤ s.scriptLen.toNat := by
  simp only [openLegal, hs]

theorem commitLegal_validate {s : State} (hs : s.stage = .validate) :
    commitLegal s ↔ s.pending = none ∧ s.pixSent = 0 := by
  simp only [commitLegal, hs]

theorem commitLegal_resolve {s : State} (hs : s.stage = .resolve) :
    commitLegal s ↔ s.pending = none ∧ s.pixSent = 0 ∧ firstInvalid s = none := by
  simp only [commitLegal, hs]

theorem commitLegal_stream {s : State} (hs : s.stage = .stream) :
    commitLegal s ↔ s.frame.length = s.cfg.framePixels ∧ s.chunkPos ≤ s.cfg.framePixels
      ∧ s.pixSent.toNat = s.chunkPos
      ∧ (s.pending = none ∨ s.chunkPos < s.cfg.framePixels
        ∧ s.pending = some (.data (chunkBytes s s.chunkPos (chunkEnd s.cfg s.chunkPos)))) := by
  simp only [commitLegal, hs]

/-- The phases of a COMMIT run. -/
theorem commitLegal_stages {s : State} (h : commitLegal s) :
    s.stage = .validate ∨ s.stage = .resolve ∨ s.stage = .stream := by
  unfold commitLegal at h
  match hs : s.stage with
  | .validate | .resolve | .stream => simp
  | .fetch | .cmd | .data | .delay | .done => simp only [hs] at h

/-- A run that loses its pending request stands where it stood. -/
theorem openLegal_acknowledge {s : State} (h : openLegal s) (a : Answer) : openLegal (acknowledge a s) := by
  obtain ⟨hs, -, hptr⟩ | ⟨q, left, hat, -⟩ | ⟨hs, hlatch, -⟩ := openLegal_cases h
  · exact (openLegal_fetch (s := acknowledge a s) hs).2 ⟨rfl, hptr⟩
  · exact AtRequest.openLegal (s := acknowledge a s) ⟨hat.stage, hat.suffix, hat.latched⟩ (.inl rfl)
  · exact openLegal_of_stageBefore (s := acknowledge a s) (left := []) hs (List.nil_suffix) hlatch rfl

theorem commitLegal_acknowledge {s : State} (h : commitLegal s) (a : Answer) : commitLegal (acknowledge a s) := by
  obtain hs | hs | hs := commitLegal_stages h
  · obtain ⟨-, hpix⟩ := (commitLegal_validate hs).1 h
    exact (commitLegal_validate (s := acknowledge a s) hs).2 ⟨rfl, hpix⟩
  · obtain ⟨-, hpix, hvalid⟩ := (commitLegal_resolve hs).1 h
    exact (commitLegal_resolve (s := acknowledge a s) hs).2 ⟨rfl, hpix, hvalid⟩
  · obtain ⟨hframe, hpos, hpix, -⟩ := (commitLegal_stream hs).1 h
    exact (commitLegal_stream (s := acknowledge a s) hs).2 ⟨hframe, hpos, hpix, .inl rfl⟩

/-! ### The updates of every run -/

section
variable {s : State}

theorem State.Legal.acknowledge (h : s.Legal) (a : Answer) : (acknowledge a s).Legal :=
  { h with
    idlePending := fun _ => rfl
    pendingSent := nofun
    replyTaken := rfl
    openingRun := fun hb => openLegal_acknowledge (h.openingRun hb) a
    committingRun := fun hb => commitLegal_acknowledge (h.committingRun hb) a }

/-- A run that ends, whatever its outcome, leaves an idle block with nothing pending. -/
theorem State.Legal.endRun (h : s.Legal) {pending : Option TxReq} (hp : pending = none) (session : Session)
    (result : RunResult) (err : ErrRegs) (latch : Latch) :
    State.Legal { s with
      session := session, result := result, err := err, latch := latch, busyOp := .idle, pending := pending } :=
  { h with
    noOutcome := absurd rfl
    openingSession := nofun
    committingSession := nofun
    idlePending := fun _ => hp
    pendingSent := fun r hr => absurd (hp.symm.trans hr) (Option.some_ne_none r).symm
    openingRun := nofun
    committingRun := nofun }

/-- An error ends the run (60_exceptions.md R243). -/
theorem State.Legal.raise (h : s.Legal) (info : ErrRegs) : (raise info s).Legal := h.endRun rfl _ _ _ _

/-! ### The updates of an OPEN run -/

/-- The end of the script, or a record that is cut short, ends the run (R111, R112). -/
theorem State.Legal.finishOpen (h : s.Legal) (hp : s.pending = none) : (finishOpen s).Legal :=
  h.endRun hp _ _ s.err s.latch

theorem State.Legal.malformedState (h : s.Legal) (miss : Truncation) (latch : Latch) :
    (malformedState miss latch s).Legal := h.endRun rfl _ _ _ latch

/-- A decoded record stands at `PTR`, and its command write is next. -/
theorem State.Legal.latchRecord (h : s.Legal) (hopening : s.busyOp = .opening) (hp : s.pending = none) {r : Record}
    (hw : r.wf = true) (hfit : s.ptr.toNat + r.length ≤ s.scriptLen.toNat)
    (hread : s.script.readBytes s.ptr.toNat r.length = some (encodeRecord r)) :
    (latchRecord (encodeRecord r) s).Legal := by
  have hlen : r.data.length < 2 ^ 7 := Nat.lt_succ_of_le (by simpa [Record.wf] using hw)
  have hlatch : latchAtPtr (Machine.latchRecord (encodeRecord r) s) := by
    simp only [latchAtPtr, latchRecord_latch, latchBytes_encodeRecord hw, latch_record]
    exact ⟨((BitVec.toNat_ofNat ..).trans (Nat.mod_eq_of_lt hlen)).symm, hfit, hread⟩
  have hrun : openLegal (Machine.latchRecord (encodeRecord r) s) :=
    openLegal_of_stageBefore (left := recordRequests (Machine.latchRecord (encodeRecord r) s).latch.record) rfl
      List.suffix_rfl hlatch hp
  exact { h with
    openingRun := fun _ => hrun
    committingRun := fun hb => nomatch hopening.symm.trans hb }

/-- The next request of the latched record is sent. -/
theorem State.Legal.issueOpen (h : s.Legal) (hopening : s.busyOp = .opening) {q : TxReq} {left : List TxReq}
    (hat : AtRequest q left s) : (issue q s).Legal :=
  { h with
    idlePending := fun hb => nomatch hopening.symm.trans hb
    pendingSent := fun r hr => by
      cases hr
      exact List.getLast?_concat
    openingRun := fun _ =>
      AtRequest.openLegal (s := issue q s) ⟨hat.stage, hat.suffix, hat.latched⟩ (.inr rfl)
    committingRun := fun hb => nomatch hopening.symm.trans hb }

/-- After `ok` the record goes on to its next request. -/
theorem State.Legal.afterRequest (h : s.Legal) (hopening : s.busyOp = .opening) (hp : s.pending = none)
    {q : TxReq} {left : List TxReq} (hat : AtRequest q left s) (opcode : Byte) :
    (afterRequest opcode q (stageBefore left) s).Legal := by
  obtain ⟨pixfmt, pixfmtValid, madctl, madctlValid, hafter⟩ := afterRequest_frame opcode q (stageBefore left) s
  rw [hafter]
  have hsuffix := (List.suffix_cons q left).trans hat.suffix
  exact { h with
    openingRun := fun _ => openLegal_of_stageBefore rfl hsuffix hat.latched hp
    committingRun := fun hb => nomatch hopening.symm.trans hb }

/-- A completed record is counted and `PTR` passes it, without a register wrapping (40_script_records.md R117). -/
theorem State.Legal.completeRecord (h : s.Legal) (hopening : s.busyOp = .opening) (hp : s.pending = none)
    (hlatch : latchAtPtr s) : (completeRecord s.latch.record.length s).Legal := by
  obtain ⟨-, hfit, -⟩ := hlatch
  have hlen : 2 ≤ s.latch.record.length := by
    rw [Record.length_eq]
    omega
  have hmax := s.scriptLen.isLt
  have hsize := h.recordSizes
  have hptr : (s.ptr + BitVec.ofNat 16 s.latch.record.length).toNat = s.ptr.toNat + s.latch.record.length :=
    toNat_add_ofNat (by omega)
  have hidx : (s.recIdx + BitVec.ofNat 16 1).toNat = s.recIdx.toNat + 1 := toNat_add_ofNat (by omega)
  exact { h with
    recordCounts := congrArg (· + 1) h.recordCounts
    recordSizes := by
      show 2 * (s.recIdx + BitVec.ofNat 16 1).toNat ≤ (s.ptr + BitVec.ofNat 16 s.latch.record.length).toNat
      omega
    openingRun := fun _ => (openLegal_fetch rfl).2 ⟨hp, hptr.trans_le hfit⟩
    committingRun := fun hb => nomatch hopening.symm.trans hb }

/-! ### The updates of a COMMIT run -/

theorem State.Legal.finishCommit (h : s.Legal) (hp : s.pending = none) : (finishCommit s).Legal :=
  h.endRun hp s.session _ s.err s.latch

/-- A stack that has passed validation is resolved next. -/
theorem State.Legal.goToResolve (h : s.Legal) (hcommitting : s.busyOp = .committing) (hp : s.pending = none)
    (hpix : s.pixSent = 0) (hvalid : firstInvalid s = none) : (goTo .resolve s).Legal :=
  { h with
    openingRun := fun hb => nomatch hcommitting.symm.trans hb
    committingRun := fun _ => (commitLegal_resolve rfl).2 ⟨hp, hpix, hvalid⟩ }

theorem State.Legal.storeFrame (h : s.Legal) (hcommitting : s.busyOp = .committing) (hp : s.pending = none)
    (hpix : s.pixSent = 0) : (storeFrame s).Legal :=
  { h with
    openingRun := fun hb => nomatch hcommitting.symm.trans hb
    committingRun := fun _ =>
      (commitLegal_stream rfl).2 ⟨resolveFrame_length s, Nat.zero_le _, congrArg BitVec.toNat hpix, .inl hp⟩ }

/-- The chunk at `CHUNK_POS` is sent. -/
theorem State.Legal.issueChunk (h : s.Legal) (hcommitting : s.busyOp = .committing) (hs : s.stage = .stream)
    (hpos : s.chunkPos < s.cfg.framePixels) :
    (issue (.data (chunkBytes s s.chunkPos (chunkEnd s.cfg s.chunkPos))) s).Legal := by
  obtain ⟨hframe, hle, hpix, -⟩ := (commitLegal_stream hs).1 (h.committingRun hcommitting)
  exact { h with
    idlePending := fun hb => nomatch hcommitting.symm.trans hb
    pendingSent := fun r hr => by
      cases hr
      exact List.getLast?_concat
    openingRun := fun hb => nomatch hcommitting.symm.trans hb
    committingRun := fun _ => (commitLegal_stream (s := issue _ s) hs).2 ⟨hframe, hle, hpix, .inr ⟨hpos, rfl⟩⟩ }

/-- After `ok` the chunk's pixels are counted. -/
theorem State.Legal.chunkSent (h : s.Legal) (hcommitting : s.busyOp = .committing) (hs : s.stage = .stream)
    (hp : s.pending = none) {e : Nat} (he : e ≤ s.cfg.framePixels) : (chunkSent e s).Legal := by
  obtain ⟨-, hmax, -⟩ := wf_frame h.config
  obtain ⟨hframe, -⟩ := (commitLegal_stream hs).1 (h.committingRun hcommitting)
  have hpix : (BitVec.ofNat 32 e).toNat = e := (BitVec.toNat_ofNat ..).trans (Nat.mod_eq_of_lt (he.trans_lt hmax))
  exact { h with
    pixelCount := hpix.trans_le he
    openingRun := fun hb => nomatch hcommitting.symm.trans hb
    committingRun := fun _ => (commitLegal_stream (s := Machine.chunkSent e s) hs).2 ⟨hframe, he, hpix, .inl hp⟩ }

/-! ### The block's own step -/

/-- Before a record a legal run ends, decodes the whole record at `PTR`, or ends at one that is cut short. -/
theorem State.Legal.fetchStep (h : s.Legal) (hopening : s.busyOp = .opening) (hs : s.stage = .fetch) :
    ∃ t, openStep s = .next t ∧ t.Legal := by
  obtain ⟨hp, hle⟩ := (openLegal_fetch hs).1 (h.openingRun hopening)
  by_cases hend : s.ptr = s.scriptLen
  · exact ⟨_, openStep_end hs hend, h.finishOpen hp⟩
  have hlt : s.ptr.toNat < s.scriptLen.toNat := lt_of_le_of_ne hle fun he => hend (BitVec.eq_of_toNat_eq he)
  obtain ⟨bytes, hread⟩ := Memory.readBytes_isSome (m := s.script) (a := s.ptr.toNat)
    (n := s.scriptLen.toNat - s.ptr.toNat) fun j hj => h.scriptWritten _ (by omega)
  match hd : decodeRecord bytes with
  | .ok (r, rest) =>
    obtain ⟨hw, rfl⟩ := decodeRecord_ok hd
    have hlen := Memory.readBytes_length hread
    rw [List.length_append, encodeRecord_length] at hlen
    have hfit : s.ptr.toNat + r.length ≤ s.scriptLen.toNat := by omega
    have hrecord : s.script.readBytes s.ptr.toNat r.length = some (encodeRecord r) := by
      have hpart := Memory.readBytes_part hread (i := 0) (k := r.length) (by omega)
      rwa [Nat.add_zero, List.drop_zero, List.take_left' (encodeRecord_length r)] at hpart
    exact ⟨_, openStep_record hw hs hfit hrecord, h.latchRecord hopening hp hw hfit hrecord⟩
  | .error miss =>
    obtain ⟨latch, hstep⟩ := openStep_malformed hopening hs hlt hread hd
    exact ⟨_, hstep, h.malformedState miss latch⟩

theorem State.Legal.openStep_legal (h : s.Legal) (hopening : s.busyOp = .opening) (hp : s.pending = none) :
    ∃ t, openStep s = .next t ∧ t.Legal := by
  obtain ⟨hs, -⟩ | ⟨q, left, hat, -⟩ | ⟨hs, hlatch, -⟩ := openLegal_cases (h.openingRun hopening)
  · exact h.fetchStep hopening hs
  · refine ⟨issue q s, ?_, h.issueOpen hopening hat⟩
    rw [openStep_request hat.stage hat.suffix, transact_issues hp]
  · refine ⟨Machine.completeRecord s.latch.record.length s, ?_, h.completeRecord hopening hp hlatch⟩
    rw [openStep_latched (by simp [hs]), runRecord_done hs]

theorem State.Legal.commitStep_legal (h : s.Legal) (hcommitting : s.busyOp = .committing) (hp : s.pending = none) :
    ∃ t, commitStep s = .next t ∧ t.Legal := by
  have hrun := h.committingRun hcommitting
  obtain hs | hs | hs := commitLegal_stages hrun
  · obtain ⟨-, hpix⟩ := (commitLegal_validate hs).1 hrun
    rw [commitStep_validate hs]
    obtain ⟨c, -, hstep⟩ | ⟨hvalid, hstep⟩ := validateStack_cases h.objectsExist
    · exact ⟨_, hstep, h.raise _⟩
    · exact ⟨_, hstep, h.goToResolve hcommitting hp hpix hvalid⟩
  · obtain ⟨-, hpix, hvalid⟩ := (commitLegal_resolve hs).1 hrun
    rw [commitStep_resolve hs]
    exact ⟨_, resolveStack_valid h.objectsExist hvalid, h.storeFrame hcommitting hp hpix⟩
  · obtain hpos | hend := Nat.lt_or_ge s.chunkPos s.cfg.framePixels
    · exact ⟨_, (h.commitStep_nextChunk hcommitting hs hpos s.turns s.reply).trans
        (congrArg Outcome.next (transact_issues hp ..)), h.issueChunk hcommitting hs hpos⟩
    · rw [commitStep_stream hs]
      exact ⟨_, streamChunk_end hend, h.finishCommit hp⟩

/-- A block that waits stays as it is, and every other step of a run leads on. -/
theorem State.Legal.blockStep_legal (h : s.Legal) : ∃ t, blockStep s = .next t ∧ t.Legal := by
  by_cases hp : s.pending = none
  · match hb : s.busyOp with
    | .idle => exact ⟨s, blockStep_idle hb, h⟩
    | .opening =>
      rw [blockStep_opening hb]
      exact h.openStep_legal hb hp
    | .committing =>
      rw [blockStep_committing hb]
      exact h.commitStep_legal hb hp
  · exact ⟨s, h.blockStep_waits hp, h⟩

/-! ### The transport's answer -/

theorem State.Legal.openAnswer_legal (h : s.Legal) (hopening : s.busyOp = .opening) (hp : s.pending ≠ none)
    (a : Answer) : ∃ t, openStep { s with reply := some a } = .next t ∧ t.Legal := by
  obtain ⟨-, hnone, -⟩ | ⟨q, left, hat, -⟩ | ⟨-, -, hnone⟩ := openLegal_cases (h.openingRun hopening)
  · exact absurd hnone hp
  · have hack := h.acknowledge a
    rw [openStep_request (s := { s with reply := some a }) hat.stage hat.suffix]
    cases a with
    | ok =>
      rw [transact_ok (by exact hp) rfl]
      exact ⟨_, rfl, hack.afterRequest hopening rfl ⟨hat.stage, hat.suffix, hat.latched⟩ _⟩
    | fail =>
      rw [transact_fail (by exact hp) rfl]
      exact ⟨_, rfl, hack.raise _⟩
  · exact absurd hnone hp

theorem State.Legal.commitAnswer_legal (h : s.Legal) (hcommitting : s.busyOp = .committing) (hp : s.pending ≠ none)
    (a : Answer) : ∃ t, commitStep { s with reply := some a } = .next t ∧ t.Legal := by
  obtain ⟨hs, hpos, -⟩ := commitLegal_waiting (h.committingRun hcommitting) hp
  have hack := h.acknowledge a
  refine ⟨_, h.commitStep_nextChunk hcommitting hs hpos s.turns (some a), ?_⟩
  cases a with
  | ok =>
    rw [transact_ok (by exact hp) rfl]
    exact hack.chunkSent hcommitting hs rfl (chunkEnd_le_framePixels hpos)
  | fail =>
    rw [transact_fail (by exact hp) rfl]
    exact hack.raise _

theorem State.Legal.busy_of_pending (h : s.Legal) (hp : s.pending ≠ none) :
    s.busyOp = .opening ∨ s.busyOp = .committing := by
  match hb : s.busyOp with
  | .idle => exact absurd (h.idlePending hb) hp
  | .opening => exact .inl rfl
  | .committing => exact .inr rfl

/-- The answer to the pending request is taken in the block's step. -/
theorem State.Legal.blockAnswer_legal (h : s.Legal) (hp : s.pending ≠ none) (a : Answer) :
    ∃ t, blockStep { s with reply := some a } = .next t ∧ t.Legal := by
  obtain hb | hb := h.busy_of_pending hp
  · rw [blockStep_opening (s := { s with reply := some a }) hb]
    exact h.openAnswer_legal hb hp a
  · rw [blockStep_committing (s := { s with reply := some a }) hb]
    exact h.commitAnswer_legal hb hp a

/-! ### The host's operations -/

/-- The offsets after a list is written are below its end, or old ones. -/
theorem Memory.mem_writeBytes {m : Memory} {a : Nat} {bs : List Byte} {c : Host.Cell} (h : c ∈ m.writeBytes a bs) :
    c.1 < a + bs.length ∨ c ∈ m := by
  induction bs generalizing m a with
  | nil => exact .inr h
  | cons b bs ih =>
    rw [List.length_cons]
    obtain hlt | hc := ih h
    · exact .inl (by omega)
    · obtain rfl | hc := Memory.mem_write hc
      · exact .inl (by simp)
      · exact .inr hc

theorem toNat_ofNat_le (w n : Nat) : (BitVec.ofNat w n).toNat ≤ n :=
  (BitVec.toNat_ofNat ..).trans_le (Nat.mod_le ..)

theorem State.Legal.loadBytes (h : s.Legal) (hidle : s.busyOp = .idle) {bytes : List Byte}
    (hlen : bytes.length ≤ s.cfg.scriptMax) : (loadBytes bytes s).Legal :=
  { h with
    scriptForm := Memory.writeBytes_wf h.scriptForm 0 bytes
    scriptSpace := fun c hc => (Memory.mem_writeBytes hc).elim (fun hlt => by
      show c.1 < s.cfg.scriptMax
      omega) (h.scriptSpace c)
    scriptLength := (toNat_ofNat_le ..).trans hlen
    scriptWritten := fun a ha => by
      have hread := Memory.read_writeBytes s.script 0 bytes (ha.trans_le (toNat_ofNat_le ..))
      rw [Nat.zero_add] at hread
      exact Option.isSome_iff_exists.2 ⟨_, hread⟩
    openingRun := fun hb => nomatch hidle.symm.trans hb }

theorem State.Legal.putPalette (h : s.Legal) (hidle : s.busyOp = .idle) (p : Nat) {pal : Palette}
    (hpal : pal.entries.length ≤ s.cfg.palMax) : (putPalette p pal s).Legal :=
  { h with
    paletteCount := List.length_set.trans h.paletteCount
    paletteSizes := fun q hq => (List.mem_or_eq_of_mem_set hq).elim (h.paletteSizes q) fun hq => hq ▸ hpal
    committingRun := fun hb => nomatch hidle.symm.trans hb }

theorem State.Legal.putEntry (h : s.Legal) (hidle : s.busyOp = .idle) (p i : Nat) (rgb : Rgb) :
    (putEntry p i rgb s).Legal := by
  unfold Machine.putEntry
  split
  · next pal hp =>
    have hsize := h.paletteSizes pal (List.mem_of_getElem? hp)
    exact h.putPalette hidle p (List.length_set.trans_le hsize)
  · exact h

theorem State.Legal.putBitmap (h : s.Legal) (hidle : s.busyOp = .idle) (b : Nat) {bmp : Bitmap}
    (hbmp : bitmapLegal s.cfg bmp) : (putBitmap b bmp s).Legal :=
  { h with
    bitmapCount := List.length_set.trans h.bitmapCount
    bitmapShapes := fun q hq => (List.mem_or_eq_of_mem_set hq).elim (h.bitmapShapes q) fun hq => hq ▸ hbmp
    committingRun := fun hb => nomatch hidle.symm.trans hb }

theorem State.Legal.putCell (h : s.Legal) (hidle : s.busyOp = .idle) (b x y : Nat) {v : Nat}
    (hv : v < 2 ^ s.cfg.indexBits) : (putCell b x y v s).Legal := by
  unfold Machine.putCell
  split
  · next bmp hb =>
    obtain ⟨hw, hh, hlen, hcells⟩ := h.bitmapShapes bmp (List.mem_of_getElem? hb)
    refine h.putBitmap hidle b ⟨hw, hh, List.length_set.trans hlen, fun c hc => ?_⟩
    obtain hc | rfl := List.mem_or_eq_of_mem_set hc
    · exact hcells c hc
    · exact (toNat_ofNat_le ..).trans_lt hv
  · exact h

theorem State.Legal.putLayer (h : s.Legal) (hidle : s.busyOp = .idle) (k : Nat) {l : Placement}
    (hl : placementLegal s.cfg l) : (putLayer k l s).Legal :=
  { h with
    slotCount := List.length_set.trans h.slotCount
    slots := fun m hm => (List.mem_or_eq_of_mem_set hm).elim (h.slots m) fun hm => hm ▸ hl
    committingRun := fun hb => nomatch hidle.symm.trans hb }

theorem State.Legal.putLayerCount (h : s.Legal) (hidle : s.busyOp = .idle) {n : Nat}
    (hn : n ≤ s.cfg.maxLayers) : (putLayerCount n s).Legal :=
  { h with
    stackSize := (toNat_ofNat_le ..).trans hn
    committingRun := fun hb => nomatch hidle.symm.trans hb }

theorem State.Legal.startOpen (h : s.Legal) (hidle : s.busyOp = .idle) : (startOpen s).Legal :=
  { h with
    recordCounts := rfl
    recordSizes := Nat.le_refl 0
    noOutcome := fun _ => ⟨rfl, rfl⟩
    openingSession := fun _ => rfl
    committingSession := nofun
    idlePending := nofun
    openingRun := fun _ => (openLegal_fetch rfl).2 ⟨h.idlePending hidle, Nat.zero_le _⟩
    committingRun := nofun }

theorem State.Legal.startCommit (h : s.Legal) (hidle : s.busyOp = .idle) (hopened : s.session = .opened) :
    (startCommit s).Legal :=
  { h with
    pixelCount := Nat.zero_le _
    noOutcome := fun _ => ⟨rfl, rfl⟩
    openingSession := nofun
    committingSession := fun _ => hopened
    idlePending := nofun
    openingRun := nofun
    committingRun := fun _ => (commitLegal_validate rfl).2 ⟨h.idlePending hidle, rfl⟩ }

/-- An operation of the host only answers, or has its effect on an idle block with its arguments in range. -/
theorem State.Legal.whenIdle (h : s.Legal) {op : State → State} (hop : s.busyOp = .idle → (op s).Legal) :
    (whenIdle s op).Legal := by
  obtain ⟨-, heq⟩ | ⟨hidle, heq⟩ := whenIdle_cases s op <;> rw [heq]
  · exact h.withResponse _
  · exact hop hidle

theorem State.Legal.whenInRange (h : s.Legal) {ok : Bool} {effect : State → State}
    (heffect : ok = true → (effect s).Legal) : (whenInRange ok s effect).Legal := by
  obtain ⟨-, heq⟩ | ⟨hok, heq⟩ := whenInRange_cases ok s effect <;> rw [heq]
  · exact h.withResponse _
  · exact (heffect hok).withResponse _

theorem State.Legal.checked (h : s.Legal) {ok : State → Bool} {effect : State → State}
    (heffect : s.busyOp = .idle → ok s = true → (effect s).Legal) :
    (Machine.whenIdle s fun s => Machine.whenInRange (ok s) s effect).Legal :=
  h.whenIdle fun hidle => h.whenInRange (heffect hidle)

theorem placementLegal_of_setLayerOk {k bmp pal visible : Nat} {x0 y0 : Int}
    (h : setLayerOk s k bmp pal x0 y0 visible = true) (vis : Bool) :
    placementLegal s.cfg ⟨bmp, pal, x0, y0, vis⟩ := by
  simp only [setLayerOk, Bool.and_eq_true, decide_eq_true_eq] at h
  obtain ⟨⟨⟨⟨-, hbmp, hpal⟩, hx⟩, hy⟩, -⟩ := h
  exact ⟨hbmp, hpal, hx, hy⟩

theorem State.Legal.exec_host (h : s.Legal) {i : Instr} (hi : isRecord i = false) :
    ∃ t, exec i s = .next t ∧ t.Legal := by
  cases i with
  | cmd | cmdDelay | cmdData | cmdDataDelay | snoopPixfmt | snoopMadctl => cases hi
  | loadScript bytes => exact ⟨_, rfl, h.checked fun hidle hok => h.loadBytes hidle (of_decide_eq_true hok)⟩
  | openSession => exact ⟨_, rfl, h.whenIdle fun hidle => (h.startOpen hidle).withResponse _⟩
  | createPalette p n =>
    refine ⟨_, rfl, h.checked fun hidle hok => h.putPalette hidle p ?_⟩
    exact List.length_replicate.trans_le (of_decide_eq_true hok).2
  | writePalette p j rgb => exact ⟨_, rfl, h.checked fun hidle _ => h.putEntry hidle p j rgb⟩
  | createBitmap b w hgt =>
    refine ⟨_, rfl, h.checked fun hidle hok => h.putBitmap hidle b ?_⟩
    obtain ⟨-, hw, hh⟩ := of_decide_eq_true hok
    exact ⟨hw, hh, List.length_replicate, fun v hv => List.eq_of_mem_replicate hv ▸ Nat.two_pow_pos _⟩
  | writeCell b x y v =>
    exact ⟨_, rfl, h.checked fun hidle hok => h.putCell hidle b x y (of_decide_eq_true hok).2.2.2⟩
  | setLayer k bmp pal x0 y0 visible =>
    exact ⟨_, rfl, h.checked fun hidle hok => h.putLayer hidle k (placementLegal_of_setLayerOk hok _)⟩
  | setLayerCount n =>
    exact ⟨_, rfl, h.checked fun hidle hok => h.putLayerCount hidle (of_decide_eq_true hok)⟩
  | commit =>
    refine ⟨_, rfl, h.whenIdle fun hidle => ?_⟩
    split
    · next hopened => exact (h.startCommit hidle hopened).withResponse _
    · exact h.withResponse _
  | readReg r =>
    refine ⟨_, rfl, ?_⟩
    split <;> exact h.withResponse _

theorem State.Legal.hostStep_legal (h : s.Legal) (q : HostReq) : ∃ t, hostStep q s = .next t ∧ t.Legal := by
  unfold hostStep
  split
  · next i hq => exact h.exec_host (decodeRequest_isHost hq)
  all_goals exact ⟨_, rfl, h.withResponse _⟩

/-! ### Reset -/

/-- What a legal configuration says of the objects (00_scope.md R9). -/
theorem wf_objects {c : Config} (h : c.wf = true) : 0 < c.numPalettes ∧ 0 < c.numBitmaps := by
  simp only [Config.wf, Bool.and_eq_true, decide_eq_true_eq] at h
  obtain ⟨⟨⟨⟨⟨⟨⟨⟨⟨⟨⟨-, -⟩, -⟩, -⟩, -⟩, hpalettes, -⟩, hbitmaps, -⟩, -⟩, -⟩, -⟩, -⟩, -⟩ := h
  exact ⟨hpalettes, hbitmaps⟩

theorem coordOk_zero (c : Config) : coordOk c 0 = true := by
  have hpos : (0 : Int) < 2 ^ (c.coordBits - 1) := by positivity
  simp only [coordOk, decide_eq_true_eq]
  omega

/-- The block after reset is legal, whatever the world has received and will do (70_reset_and_hazards.md R270). -/
theorem resetWith_legal {c : Config} (h : c.wf = true) : (State.resetWith c).Legal := by
  obtain ⟨hpalettes, hbitmaps⟩ := wf_objects h
  exact {
    config := h
    scriptForm := List.Pairwise.nil
    scriptSpace := nofun
    scriptLength := Nat.zero_le _
    scriptWritten := nofun
    paletteCount := List.length_replicate
    paletteSizes := fun p hp => List.eq_of_mem_replicate hp ▸ Nat.zero_le _
    bitmapCount := List.length_replicate
    bitmapShapes := fun b hb =>
      List.eq_of_mem_replicate hb ▸ ⟨Nat.zero_le _, Nat.zero_le _, rfl, nofun⟩
    slotCount := List.length_replicate
    slots := fun l hl => List.eq_of_mem_replicate hl ▸ ⟨hbitmaps, hpalettes, coordOk_zero c, coordOk_zero c⟩
    stackSize := Nat.zero_le _
    recordCounts := rfl
    recordSizes := Nat.le_refl 0
    pixelCount := Nat.zero_le _
    noOutcome := absurd rfl
    openingSession := nofun
    committingSession := nofun
    idlePending := fun _ => rfl
    pendingSent := nofun
    replyTaken := rfl
    openingRun := nofun
    committingRun := nofun }

theorem State.Legal.resetStep (h : s.Legal) : (resetStep s).Legal :=
  { resetWith_legal h.config with pendingSent := nofun }

/-! ### The step -/

/-- The invariant and its progress in one: whoever moves next, a legal state goes on to a legal state. -/
theorem State.Legal.step_legal (h : s.Legal) : ∃ t, step s = .next t ∧ t.Legal := by
  match hturns : s.turns with
  | [] =>
    rw [step_noTurn hturns]
    exact h.blockStep_legal
  | .block :: ts =>
    rw [step_block hturns]
    exact (h.withTurns ts).blockStep_legal
  | .host q :: ts =>
    rw [step_host hturns]
    exact (h.withTurns ts).hostStep_legal q
  | .answer n a :: ts =>
    obtain ⟨hp, -, hstep⟩ | ⟨-, hstep⟩ := step_answer_cases hturns <;> rw [hstep]
    · exact (h.withTurns ts).blockAnswer_legal hp a
    · exact ⟨_, rfl, h.withTurns ts⟩
  | .reset :: ts =>
    rw [step_reset hturns]
    exact ⟨_, rfl, (h.withTurns ts).resetStep⟩

end

/-- Settles O54: a step answers one state only, which is the legal one it leads to. -/
theorem stepKeepsLegal : Obligations.StepKeepsLegal := by
  intro s t h ht
  obtain ⟨u, hu, hlegal⟩ := h.step_legal
  obtain rfl : u = t := Outcome.next.inj (hu.symm.trans ht)
  exact hlegal

/-- Settles O56: whoever moves next, the step leads to a legal state. -/
theorem legalStateNeverStops : Obligations.LegalStateNeverStops := by
  intro s h
  obtain ⟨t, ht, -⟩ := h.step_legal
  exact ⟨t, ht⟩

end Sys2Proof.Machine

/-! PROOF. The host operations, each by its own rule (43_session_host_ops.md R200 to R214): what is answered, what
an accepted operation writes, and what reads as before. -/

namespace Sys2Proof.Machine

open Host (Outcome)

/-! ### What every operation does -/

theorem exec_host_next {i : Instr} (hi : isRecord i = false) (s : State) : ∃ t, exec i s = .next t := by
  cases i with
  | cmd | cmdDelay | cmdData | cmdDataDelay | snoopPixfmt | snoopMadctl => cases hi
  | _ => exact ⟨_, rfl⟩

/-- Settles O37: a host operation only answers, or it is accepted. -/
theorem rejectedOperationChangesNothing : Obligations.RejectedOperationChangesNothing := by
  intro i s hi
  obtain ⟨t, ht⟩ := exec_host_next hi s
  obtain ⟨resp, rfl⟩ | ⟨-, rfl⟩ := exec_host_cases hi ht
  · exact ⟨_, resp, ht, rfl, fun _ => rfl⟩
  · exact ⟨_, _, ht, rfl, fun hne => absurd rfl hne⟩

/-- Every host operation but `READ_REG` asks first whether the block is idle (R201). -/
theorem exec_whenIdle {i : Instr} (hi : isRecord i = false) (hread : ∀ r, i ≠ .readReg r) (s : State) :
    ∃ op, exec i s = .next (whenIdle s op) := by
  cases i with
  | cmd | cmdDelay | cmdData | cmdDataDelay | snoopPixfmt | snoopMadctl => cases hi
  | readReg r => exact absurd rfl (hread r)
  | _ => exact ⟨_, rfl⟩

/-- Settles O36: the operation asks first whether the block is idle. -/
theorem busyRejectsAllButReadReg : Obligations.BusyRejectsAllButReadReg := by
  intro i s hi hread hbusy
  obtain ⟨op, hop⟩ := exec_whenIdle hi hread s
  rw [hop, whenIdle_busy hbusy]
  rfl

/-- A code outside R103's table decodes to no operation. -/
theorem decodeRequest_unknownCode {q : HostReq} (h : q.code = 0 ∨ 0x0A < q.code.toNat) :
    decodeRequest q = .error .unknownCode := by
  have hcode : ∀ c : Byte, 0 < c.toNat → c.toNat ≤ 0x0A → q.code ≠ c := by
    rintro c hpos hle rfl
    obtain h | h := h
    · simp [h] at hpos
    · omega
  simp [decodeRequest, hcode]

/-- Settles O15: the code is unknown to the decoder, and the host's turn answers `ARG_RANGE`. -/
theorem unknownCodeIsOutOfRange : Obligations.UnknownCodeIsOutOfRange := by
  intro s q ts hcode hturns
  rw [step_host hturns, hostStep, decodeRequest_unknownCode hcode]
  rfl

/-! ### The operations that check their arguments

On an idle block such an operation is decided by its check (R202 (4)). -/

section
variable {s : State} {ok : State → Bool} {effect : State → State}

theorem checked_rejected (hidle : s.busyOp = .idle) (h : ok s = false) :
    whenIdle s (fun s => whenInRange (ok s) s effect) = answeredState .argRange s := by
  rw [whenIdle_idle hidle, h]
  rfl

theorem checked_accepted (hidle : s.busyOp = .idle) (h : ok s = true) :
    whenIdle s (fun s => whenInRange (ok s) s effect) = answeredState .accepted (effect s) := by
  rw [whenIdle_idle hidle, h]
  rfl

end

/-- Settles O26: the list is written from offset 0, so it is read there, and nowhere else. -/
theorem loadScriptStoresTheBytes : Obligations.LoadScriptStoresTheBytes := by
  intro bytes s hidle
  refine ⟨fun hlong => ?_, fun hfit => ⟨s.script.writeBytes 0 bytes, ?_, fun a ha => ?_, fun a ha => ?_, fun hwf => ?_⟩⟩
  · exact congrArg Outcome.next (checked_rejected hidle (decide_eq_false (Nat.not_le.2 hlong)))
  · exact congrArg Outcome.next (checked_accepted hidle (decide_eq_true hfit))
  · have hread := Memory.read_writeBytes s.script 0 bytes ha
    rwa [Nat.zero_add] at hread
  · exact Memory.read_writeBytes_other _ _ (.inr (by omega))
  · exact Memory.writeBytes_wf hwf 0 bytes

/-- Settles O28, by the operation's check. -/
theorem createPaletteZeroFills : Obligations.CreatePaletteZeroFills := by
  intro p n s hidle
  refine ⟨fun hbad => ?_, fun hp hn => ?_⟩
  · exact congrArg Outcome.next (checked_rejected hidle (decide_eq_false (by omega)))
  · exact congrArg Outcome.next (checked_accepted hidle (decide_eq_true ⟨hp, hn⟩))

/-- Settles O30, by the operation's check. -/
theorem createBitmapZeroFills : Obligations.CreateBitmapZeroFills := by
  intro b w h s hidle
  refine ⟨fun hbad => ?_, fun hb hw hh => ?_⟩
  · exact congrArg Outcome.next (checked_rejected hidle (decide_eq_false (by omega)))
  · exact congrArg Outcome.next (checked_accepted hidle (decide_eq_true ⟨hb, hw, hh⟩))

/-- Settles O33, by the operation's check. -/
theorem setLayerCountSetsTheStack : Obligations.SetLayerCountSetsTheStack := by
  intro n s hidle
  refine ⟨fun hbad => ?_, fun hn => ?_⟩
  · exact congrArg Outcome.next (checked_rejected hidle (decide_eq_false (Nat.not_le.2 hbad)))
  · exact congrArg Outcome.next (checked_accepted hidle (decide_eq_true hn))

/-- The check of `SET_LAYER` as one condition (R211). -/
theorem setLayerOk_iff {s : State} {k bmp pal visible : Nat} {x0 y0 : Int} :
    setLayerOk s k bmp pal x0 y0 visible = true ↔
      (k < s.cfg.maxLayers ∧ bmp < s.cfg.numBitmaps ∧ pal < s.cfg.numPalettes)
      ∧ coordOk s.cfg x0 = true ∧ coordOk s.cfg y0 = true ∧ (visible = 0 ∨ visible = 1) := by
  simp only [setLayerOk, Bool.and_eq_true, decide_eq_true_eq, and_assoc]

/-- Settles O32: the check is the conjunction of the bounds, and `visible` 0 or 1 is the slot's flag. -/
theorem setLayerWritesTheSlot : Obligations.SetLayerWritesTheSlot := by
  intro k bmp pal x0 y0 visible s hidle low high
  refine ⟨fun hbad => ?_, fun hk hbmp hpal hx hx' hy hy' vis hvis => ?_⟩
  · refine congrArg Outcome.next (checked_rejected hidle (Bool.eq_false_iff.2 fun hok => ?_))
    obtain ⟨⟨hk, hbmp, hpal⟩, hx, hy, hvis⟩ := setLayerOk_iff.1 hok
    have hx : low ≤ x0 ∧ x0 < high := of_decide_eq_true hx
    have hy : low ≤ y0 ∧ y0 < high := of_decide_eq_true hy
    omega
  · have hflag : (visible == 1) = vis := by
      subst hvis
      cases vis <;> rfl
    have hvisible : visible = 0 ∨ visible = 1 := by
      subst hvis
      cases vis <;> simp
    have hok := setLayerOk_iff.2
      ⟨⟨hk, hbmp, hpal⟩, decide_eq_true ⟨hx, hx'⟩, decide_eq_true ⟨hy, hy'⟩, hvisible⟩
    subst hflag
    exact congrArg Outcome.next (checked_accepted hidle hok)

/-! ### The operations that start a run -/

/-- Settles O27: an idle block starts the run. -/
theorem openStartsTheRun : Obligations.OpenStartsTheRun := by
  intro s hidle
  exact congrArg Outcome.next (whenIdle_idle hidle _)

/-- Settles O35: an idle block starts the run when the session is open. -/
theorem commitStartsTheRun : Obligations.CommitStartsTheRun := by
  intro s hidle
  refine ⟨fun hclosed => congrArg Outcome.next ?_, fun hopened => congrArg Outcome.next ?_⟩
  · exact (whenIdle_idle hidle _).trans (if_neg hclosed)
  · exact (whenIdle_idle hidle _).trans (if_pos hopened)

end Sys2Proof.Machine

/-! PROOF. The host operations that write into an object (43_session_host_ops.md R208, R210): what each read gives
afterwards. -/

namespace Sys2Proof.Machine

open Host (Outcome)

/-! ### Palettes -/

section
variable {s : State} {p : Nat} {pal pal' : Palette}

theorem palN_eq (h : s.palettes[p]? = some pal) : palN s p = pal.entries.length := by
  simp only [palN, h]

theorem palette_of_lt_palN {i : Nat} (h : i < palN s p) :
    ∃ pal, s.palettes[p]? = some pal ∧ i < pal.entries.length := by
  unfold palN at h
  split at h
  · next pal hp => exact ⟨pal, hp, h⟩
  · exact absurd h (Nat.not_lt_zero i)

theorem palettes_putPalette_same (h : s.palettes[p]? = some pal) :
    (putPalette p pal' s).palettes[p]? = some pal' := by
  rw [putPalette_palettes, List.getElem?_set_self (List.getElem?_eq_some_iff.1 h).1]

theorem palettes_putPalette_other {q : Nat} (h : q ≠ p) : (putPalette p pal' s).palettes[q]? = s.palettes[q]? := by
  rw [putPalette_palettes, List.getElem?_set_ne h.symm]

theorem putEntry_eq (h : s.palettes[p]? = some pal) (i : Nat) (rgb : Rgb) :
    putEntry p i rgb s = putPalette p ⟨pal.entries.set i rgb⟩ s := by
  simp only [putEntry, h]

theorem palN_putEntry (h : s.palettes[p]? = some pal) (i : Nat) (rgb : Rgb) (q : Nat) :
    palN (putEntry p i rgb s) q = palN s q := by
  rw [putEntry_eq h]
  by_cases hq : q = p
  · subst hq
    rw [palN_eq (palettes_putPalette_same h), palN_eq h, List.length_set]
  · simp only [palN, palettes_putPalette_other hq]

theorem palRead?_putEntry_same (h : s.palettes[p]? = some pal) {i : Nat} (hi : i < pal.entries.length) (rgb : Rgb) :
    palRead? (putEntry p i rgb s) p i = some rgb := by
  rw [putEntry_eq h, palRead?, palettes_putPalette_same h]
  exact List.getElem?_set_self hi

theorem palRead?_putEntry_other (h : s.palettes[p]? = some pal) {i q j : Nat} (hne : ¬ (q = p ∧ j = i)) (rgb : Rgb) :
    palRead? (putEntry p i rgb s) q j = palRead? s q j := by
  rw [putEntry_eq h]
  by_cases hq : q = p
  · subst hq
    have hji : i ≠ j := fun hij => hne ⟨rfl, hij.symm⟩
    simp only [palRead?, palettes_putPalette_same h, h, List.getElem?_set_ne hji]
  · simp only [palRead?, palettes_putPalette_other hq]

end

/-- Settles O29: the entry is written into its palette, and a read of it or of another finds that. -/
theorem writePaletteWritesOneEntry : Obligations.WritePaletteWritesOneEntry := by
  intro p i rgb s hidle
  refine ⟨fun hbad => ?_, fun hp hi => ?_⟩
  · exact congrArg Outcome.next (checked_rejected hidle (decide_eq_false (by omega)))
  · obtain ⟨pal, hpal, hlen⟩ := palette_of_lt_palN hi
    refine ⟨respond .accepted (putEntry p i rgb s), ?_, ?_, ?_, ?_, ?_⟩
    · exact congrArg Outcome.next (checked_accepted hidle (decide_eq_true ⟨hp, hi⟩))
    · rw [putEntry_frame]
      rfl
    · exact palRead?_putEntry_same hpal hlen rgb
    · exact palN_putEntry hpal i rgb
    · exact fun q j hne => palRead?_putEntry_other hpal hne rgb

/-! ### Bitmaps -/

section
variable {s : State} {b : Nat} {bmp bmp' : Bitmap}

theorem bmpW_eq (h : s.bitmaps[b]? = some bmp) : bmpW s b = bmp.w := by
  simp only [bmpW, h]

theorem bmpH_eq (h : s.bitmaps[b]? = some bmp) : bmpH s b = bmp.h := by
  simp only [bmpH, h]

theorem bitmap_of_lt_bmpW {x : Nat} (h : x < bmpW s b) : ∃ bmp, s.bitmaps[b]? = some bmp := by
  unfold bmpW at h
  split at h
  · next bmp hb => exact ⟨bmp, hb⟩
  · exact absurd h (Nat.not_lt_zero x)

theorem bitmaps_putBitmap_same (h : s.bitmaps[b]? = some bmp) :
    (putBitmap b bmp' s).bitmaps[b]? = some bmp' := by
  rw [putBitmap_bitmaps, List.getElem?_set_self (List.getElem?_eq_some_iff.1 h).1]

theorem bitmaps_putBitmap_other {q : Nat} (h : q ≠ b) : (putBitmap b bmp' s).bitmaps[q]? = s.bitmaps[q]? := by
  rw [putBitmap_bitmaps, List.getElem?_set_ne h.symm]

theorem putCell_eq (h : s.bitmaps[b]? = some bmp) (x y v : Nat) :
    putCell b x y v s =
      putBitmap b { bmp with cells := bmp.cells.set (y * bmp.w + x) (BitVec.ofNat 16 v) } s := by
  simp only [putCell, h]

theorem bmpSize_putCell (h : s.bitmaps[b]? = some bmp) (x y v q : Nat) :
    bmpW (putCell b x y v s) q = bmpW s q ∧ bmpH (putCell b x y v s) q = bmpH s q := by
  rw [putCell_eq h]
  by_cases hq : q = b
  · subst hq
    simp only [bmpW_eq h, bmpH_eq h, bmpW_eq (bitmaps_putBitmap_same h), bmpH_eq (bitmaps_putBitmap_same h),
      and_self]
  · simp only [bmpW, bmpH, bitmaps_putBitmap_other hq, and_self]

theorem bmpRead?_putCell_same (h : s.bitmaps[b]? = some bmp) (hlen : bmp.cells.length = bmp.w * bmp.h) {x y : Nat}
    (hx : x < bmp.w) (hy : y < bmp.h) (v : Nat) :
    bmpRead? (putCell b x y v s) b x y = some (BitVec.ofNat 16 v) := by
  rw [putCell_eq h, bmpRead?_eq_some_iff (bitmaps_putBitmap_same h)]
  exact ⟨hx, hy, List.getElem?_set_self (hlen ▸ cellPlace_lt hx hy)⟩

/-- Another cell of the bitmap stands at another place of its list. -/
theorem bmpRead?_putCell_other (h : s.bitmaps[b]? = some bmp) {x y q x' y' : Nat} (hx : x < bmp.w)
    (hne : ¬ (q = b ∧ x' = x ∧ y' = y)) (v : Nat) :
    bmpRead? (putCell b x y v s) q x' y' = bmpRead? s q x' y' := by
  rw [putCell_eq h]
  by_cases hq : q = b
  · subst hq
    simp only [bmpRead?, bitmaps_putBitmap_same h, h]
    by_cases hin : x' < bmp.w ∧ y' < bmp.h
    · have hplace : y * bmp.w + x ≠ y' * bmp.w + x' := fun heq => by
        obtain ⟨rfl, rfl⟩ := cellPlace_inj hx hin.1 heq
        exact hne ⟨rfl, rfl, rfl⟩
      rw [List.getElem?_set_ne hplace]
    · rw [if_neg hin, if_neg hin]
  · simp only [bmpRead?, bitmaps_putBitmap_other hq]

end

/-- Settles O31: the cell is written into its bitmap, which has all its cells in a legal state, and a read of it
or of another finds that. -/
theorem writeCellWritesOneCell : Obligations.WriteCellWritesOneCell := by
  intro b x y v s hidle
  refine ⟨fun hbad => ?_, fun hb hx hy hv h => ?_⟩
  · exact congrArg Outcome.next (checked_rejected hidle (decide_eq_false (by omega)))
  · obtain ⟨bmp, hbmp⟩ := bitmap_of_lt_bmpW hx
    obtain ⟨-, -, hlen, -⟩ := h.bitmapShapes bmp (List.mem_of_getElem? hbmp)
    have hxw := bmpW_eq hbmp ▸ hx
    have hyh := bmpH_eq hbmp ▸ hy
    refine ⟨respond .accepted (putCell b x y v s), ?_, ?_, ?_, ?_, ?_⟩
    · exact congrArg Outcome.next (checked_accepted hidle (decide_eq_true ⟨hb, hx, hy, hv⟩))
    · rw [putCell_frame]
      rfl
    · exact bmpRead?_putCell_same hbmp hlen hxw hyh v
    · exact bmpSize_putCell hbmp x y v
    · exact fun q x' y' hne => bmpRead?_putCell_other hbmp hxw hne v

end Sys2Proof.Machine

/-! PROOF. `READ_REG` (43_session_host_ops.md R213): each field of the register map (10_state.md R39) stands at its
place, and the bits between them are 0. -/

namespace Sys2Proof.Machine

/-! ### A field of a register -/

section
variable {m n lo : Nat}

theorem extractLsb'_fieldAt (v : BitVec n) (h : lo + n ≤ 32) : (fieldAt lo v).extractLsb' lo n = v :=
  extractLsb'_placed v h

/-- Bits apart from the field are 0. -/
theorem extractLsb'_fieldAt_disjoint {j : Nat} (v : BitVec n) (h : j + m ≤ lo ∨ lo + n ≤ j) :
    (fieldAt lo v).extractLsb' j m = 0#m :=
  extractLsb'_placed_disjoint v h

end

/-- A flag is a field of one bit. -/
theorem getLsbD_eq_iff_extractLsb' {v : BitVec 32} {j : Nat} {flag : Bool} :
    v.getLsbD j = flag ↔ v.extractLsb' j 1 = BitVec.ofBool flag := by
  constructor
  · rintro rfl
    ext i hi
    simp [Nat.lt_one_iff.1 hi]
  · intro h
    simpa using congrArg (·.getLsbD 0) h

/-- The code of a named value fits its field. -/
theorem sessionCode_narrow (x : Session) : (x.code.setWidth 2).setWidth 32 = x.code := by
  cases x <;> rfl

theorem busyOpCode_narrow (x : BusyOp) : (x.code.setWidth 2).setWidth 32 = x.code := by
  cases x <;> rfl

theorem resultCode_narrow (x : RunResult) : (x.code.setWidth 4).setWidth 32 = x.code := by
  cases x <;> rfl

theorem errFieldCode_narrow (x : ErrField) : (x.code.setWidth 4).setWidth 32 = x.code := by
  cases x <;> rfl

/-! ### The registers -/

section
variable (s : State)

theorem regValue_zero : regValue s 0 = fieldAt 0 (s.session.code.setWidth 2)
    ||| fieldAt 2 (s.busyOp.code.setWidth 2) ||| fieldAt 4 (s.result.code.setWidth 4) := by
  simp [regValue, fieldAt, sessionCode_narrow, busyOpCode_narrow, resultCode_narrow]

theorem regValue_one :
    regValue s 1 = fieldAt 0 s.err.record ||| fieldAt 16 (s.err.field.code.setWidth 4) := by
  simp [regValue, fieldAt, errFieldCode_narrow]

end

theorem exec_readReg {r : Nat} (h : r ≤ 12) (s : State) :
    exec (.readReg r) s = .next { s with response := some ⟨.accepted, regValue s r⟩ } :=
  congrArg Host.Outcome.next (if_pos h)

theorem exec_readReg_outOfRange {r : Nat} (h : 12 < r) (s : State) :
    exec (.readReg r) s = .next (answeredState .argRange s) :=
  congrArg Host.Outcome.next (if_neg (Nat.not_le.2 h))

/-- Settles O34: the fields of each register are found at their places, and the codes are those of the values. -/
theorem readRegGivesTheRegister : Obligations.ReadRegGivesTheRegister := by
  intro r s
  refine ⟨fun h => exec_readReg_outOfRange h s, fun h => ⟨regValue s r, exec_readReg h s, ?status, ?error, ?offset,
    ?place, ?layer, ?value, ?recDone, ?pixSent, ?frame, ?capture, ?pixelBits, ?scriptLen, ?layerCount⟩⟩ <;> rintro rfl
  case' status => rw [regValue_zero]
  case' error => rw [regValue_one]
  all_goals
    simp (disch := omega) only [regValue, getLsbD_eq_iff_extractLsb', BitVec.extractLsb'_or, extractLsb'_fieldAt,
      extractLsb'_fieldAt_disjoint, BitVec.or_zero, BitVec.zero_or, BitVec.ofNat_eq_ofNat, and_self, and_true, true_and]
  case status =>
    refine ⟨?_, ?_, ?_⟩
    · cases s.session <;> rfl
    · cases s.busyOp <;> rfl
    · cases s.result <;> rfl
  case error => cases s.err.field <;> rfl

end Sys2Proof.Machine

/-! PROOF. What changes the session (43_session_host_ops.md R203): a reset, `OPEN`, and the end of an OPEN run. -/

namespace Sys2Proof.Machine

open Host (Outcome)

/-- `s` is the end of an OPEN run: with success, or with an error of the script or of the transport. -/
def openRunEnded (s : State) : Prop :=
  s.busyOp = .idle
  ∧ (s.session = .opened ∧ s.result = .ok
    ∨ s.session = .failed ∧ (s.result = .malformedScript ∨ s.result = .transportFailure))

/-- An error of an OPEN run fails its session (60_exceptions.md R243). -/
theorem openRunEnded_raise {s : State} (hopening : s.busyOp = .opening) {info : ErrRegs}
    (hinfo : info.field.result = .malformedScript ∨ info.field.result = .transportFailure) :
    openRunEnded (raise info s) :=
  ⟨rfl, .inr ⟨if_pos hopening, hinfo⟩⟩

theorem runRecord_session {r : Record} {s t : State} (hopening : s.busyOp = .opening)
    (h : runRecord r s = .next t) : t.session = s.session ∨ openRunEnded t := by
  obtain ⟨q, g, -, -, rfl⟩ | ⟨-, rfl⟩ := runRecord_request_cases h
  · obtain ⟨-, h⟩ | ⟨-, -, h⟩ | ⟨-, -, h⟩ | ⟨-, -, h⟩ :=
      transact_cases q (recordError (failedField q) s) (afterRequest r.opcode q g) s <;> rw [h]
    · exact .inl rfl
    · exact .inl rfl
    · obtain ⟨_, _, _, _, hafter⟩ := afterRequest_frame r.opcode q g (acknowledge .ok s)
      rw [hafter]
      exact .inl rfl
    · exact .inr (openRunEnded_raise (s := acknowledge .fail s) hopening (.inr (failedField_result q)))
  · exact .inl rfl

theorem decodeStep_session {bytes : List Byte} {s t : State} (hopening : s.busyOp = .opening)
    (h : decodeStep bytes s = .next t) : t.session = s.session ∨ openRunEnded t := by
  unfold decodeStep at h
  split at h <;> cases h
  · exact .inl rfl
  all_goals exact .inr (openRunEnded_raise (by exact hopening) (.inl rfl))

theorem openStep_session {s t : State} (hopening : s.busyOp = .opening) (h : openStep s = .next t) :
    t.session = s.session ∨ openRunEnded t := by
  match hs : s.stage with
  | .fetch =>
    simp only [openStep, hs] at h
    split at h
    · cases h
      exact .inr ⟨rfl, .inl ⟨rfl, rfl⟩⟩
    · split at h
      · cases h
      · exact decodeStep_session hopening h
  | .cmd | .data | .delay | .done =>
    rw [openStep_latched (by simp [hs])] at h
    exact runRecord_session hopening h
  | .validate | .resolve | .stream => simp only [openStep, hs, reduceCtorEq] at h

/-- A COMMIT run never changes the session, not even by its error (R170). -/
theorem commitStep_session {s t : State} (hcommitting : s.busyOp = .committing) (h : commitStep s = .next t) :
    t.session = s.session := by
  have hraise : ∀ info u, u.busyOp = .committing → (raise info u).session = u.session := fun info u hu =>
    if_neg (by simp [hu])
  obtain ⟨c, rfl⟩ | rfl | rfl | rfl | ⟨bs, failure, e, rfl⟩ := commitStep_cases h
  · exact hraise _ s hcommitting
  · rfl
  · rfl
  · rfl
  · obtain ⟨-, h⟩ | ⟨-, -, h⟩ | ⟨-, -, h⟩ | ⟨-, -, h⟩ := transact_cases (.data bs) failure (chunkSent e) s <;> rw [h]
    · rfl
    · rfl
    · exact hraise failure (acknowledge .fail s) hcommitting

/-- The block by itself changes the session at the end of an OPEN run alone. -/
theorem blockStep_session {s t : State} (h : blockStep s = .next t) :
    t.session = s.session ∨ s.busyOp = .opening ∧ openRunEnded t := by
  match hb : s.busyOp with
  | .idle =>
    cases (blockStep_idle hb).symm.trans h
    exact .inl rfl
  | .opening => exact (openStep_session hb ((blockStep_opening hb).symm.trans h)).imp_right fun hended => ⟨rfl, hended⟩
  | .committing => exact .inl (commitStep_session hb ((blockStep_committing hb).symm.trans h))

theorem hostEffect_session {i : Instr} (hi : i ≠ .openSession) (s : State) :
    (hostEffect i s).session = s.session := by
  cases i with
  | openSession => exact absurd rfl hi
  | writePalette p j rgb => rw [hostEffect, putEntry_frame]
  | writeCell b x y v => rw [hostEffect, putCell_frame]
  | _ => rfl

/-- The host changes the session by an accepted `OPEN` alone. -/
theorem hostStep_session {q : HostReq} {s t : State} (h : hostStep q s = .next t) :
    t.session = s.session ∨ t.session = .closed ∧ s.busyOp = .idle ∧ t.busyOp = .opening := by
  obtain ⟨resp, rfl⟩ | ⟨hidle, i, -, rfl⟩ := hostStep_cases h
  · exact .inl rfl
  · by_cases hi : i = .openSession
    · subst hi
      exact .inr ⟨rfl, hidle, rfl⟩
    · exact .inl (hostEffect_session hi s)

/-- What the turn of each mover can make of the session. -/
theorem step_session {s t : State} (h : step s = .next t) :
    t.session = s.session
    ∨ (t.session = .closed ∧ ((∃ ts, s.turns = .reset :: ts) ∨ s.busyOp = .idle ∧ t.busyOp = .opening))
    ∨ s.busyOp = .opening ∧ openRunEnded t := by
  match hturns : s.turns with
  | [] =>
    rw [step_noTurn hturns] at h
    exact (blockStep_session h).imp_right .inr
  | .block :: ts =>
    rw [step_block hturns] at h
    exact (blockStep_session h).imp_right .inr
  | .host q :: ts =>
    rw [step_host hturns] at h
    exact (hostStep_session h).imp_right fun ⟨hclosed, hopen⟩ => .inl ⟨hclosed, .inr hopen⟩
  | .answer n a :: ts =>
    obtain ⟨-, -, hstep⟩ | ⟨-, hstep⟩ := step_answer_cases hturns
    · rw [hstep] at h
      exact (blockStep_session h).imp_right .inr
    · cases hstep.symm.trans h
      exact .inl rfl
  | .reset :: ts =>
    cases (step_reset hturns).symm.trans h
    exact .inr (.inl ⟨rfl, .inl ⟨ts, rfl⟩⟩)

/-- Settles O57: in a legal state an OPEN run has a closed session, which its end opens or fails. -/
theorem sessionTransitions : Obligations.SessionTransitions := by
  intro s t hlegal h hne
  obtain hsame | hclosed | ⟨hopening, hidle, ⟨hopened, hok⟩ | ⟨hfailed, hresult⟩⟩ := step_session h
  · exact absurd hsame hne
  · exact .inl hclosed
  · exact .inr (.inl ⟨hlegal.openingSession hopening, hopening, hidle, hopened, hok⟩)
  · exact .inr (.inr ⟨hlegal.openingSession hopening, hopening, hidle, hfailed, hresult⟩)

end Sys2Proof.Machine

/-! PROOF. Reset and the idle block (70_reset_and_hazards.md R270 to R272): what a reset leaves, and why the answer
to a request it abandons is never taken. -/

namespace Sys2Proof.Machine

open Host (Outcome)

/-! ### What becomes of the pending request

The requests are numbered in the order in which they are sent, and the pending one is the last of them (log entry
8). No step gives a number back, so a request that is no longer pending never becomes pending again. -/

theorem step_trace_prefix {s t : State} (h : step s = .next t) : s.trace <+: t.trace := by
  obtain hsame | ⟨r, -, -, hsent⟩ | ⟨r, a, -, -, hanswered⟩ := oneRequestAtATime s t h
  · exact hsame ▸ List.prefix_rfl
  · exact ⟨_, hsent.symm⟩
  · exact ⟨_, hanswered.symm⟩

theorem step_sentCount_le {s t : State} (h : step s = .next t) : s.sentCount ≤ t.sentCount :=
  (step_trace_prefix h).sublist.countP_le

/-- From `s` to `t` the pending request stays, or none is left, or a newer one has been sent. -/
def noOlderPending (s t : State) : Prop :=
  t.pending = none ∨ t.pending = s.pending ∨ s.sentCount < t.sentCount

theorem transact_noOlderPending (q : TxReq) (failure : ErrRegs) {onOk : State → State} (s : State)
    (hok : ∀ u, (onOk u).pending = u.pending) : noOlderPending s (transact q failure onOk s) := by
  obtain ⟨-, h⟩ | ⟨-, -, h⟩ | ⟨-, -, h⟩ | ⟨-, -, h⟩ := transact_cases q failure onOk s <;> rw [h]
  · exact .inr (.inr (by simp))
  · exact .inr (.inl rfl)
  · exact .inl (hok _)
  · exact .inl rfl

theorem BlockMove.noOlderPending {s t : State} (h : BlockMove s t) : noOlderPending s t := by
  cases h with
  | recordRequest q failure opcode g =>
    refine transact_noOlderPending q failure s fun u => ?_
    obtain ⟨_, _, _, _, hafter⟩ := afterRequest_frame opcode q g u
    rw [hafter]
  | chunkRequest q failure e => exact transact_noOlderPending q failure s fun _ => rfl
  | raises => exact .inl rfl
  | stays | finishesOpen | decodes | completes | passesValidation | resolves | finishesCommit =>
    exact .inr (.inl rfl)

theorem hostEffect_pending (i : Instr) (s : State) : (hostEffect i s).pending = s.pending := by
  cases i with
  | writePalette p j rgb => rw [hostEffect, putEntry_frame]
  | writeCell b x y v => rw [hostEffect, putCell_frame]
  | _ => rfl

theorem step_noOlderPending {s t : State} (h : step s = .next t) : noOlderPending s t := by
  obtain ⟨ts, reply, hmove⟩ | ⟨q, ts, -, hhost⟩ | ⟨ts, -, rfl⟩ := step_cases h
  · exact hmove.noOlderPending
  · obtain ⟨resp, rfl⟩ | ⟨-, i, -, rfl⟩ := hostStep_cases hhost
    · exact .inr (.inl rfl)
    · exact .inr (.inl (hostEffect_pending i { s with turns := ts }))
  · exact .inl rfl

/-! ### The abandoned request -/

/-- Request `n` has been sent and is not pending: it has been answered or abandoned. -/
structure RequestOver (n : Nat) (s : State) : Prop where
  sent : n ≤ s.sentCount
  notPending : s.pending = none ∨ n ≠ s.sentCount

/-- A reset leaves no request pending, and the numbers given before it stay given. -/
theorem resetStep_requestOver (s : State) : RequestOver s.sentCount (resetStep s) :=
  ⟨Nat.le_refl _, .inl rfl⟩

/-- A request that is over stays over. -/
theorem RequestOver.step {n : Nat} {s t : State} (hover : RequestOver n s) (h : step s = .next t) :
    RequestOver n t := by
  obtain ⟨hsent, hnot⟩ := hover
  have hle := step_sentCount_le h
  refine ⟨hsent.trans hle, ?_⟩
  obtain hnone | hsame | hnew := step_noOlderPending h
  · exact .inl hnone
  · exact hnot.imp hsame.trans fun hne => by omega
  · exact .inr (by omega)

/-- Many steps that answer are a step that answers and the others. -/
theorem runSteps_succ_cases {k : Nat} {s t : State} (h : runSteps (k + 1) s = .next t) :
    ∃ u, step s = .next u ∧ runSteps k u = .next t := by
  simp only [runSteps, Host.Core.run] at h
  split at h
  · next u hu => exact ⟨u, hu, h⟩
  · cases h
  · cases h

/-- What every step keeps holds in every state that is reached. -/
theorem runSteps_keeps {P : State → Prop} (hkeep : ∀ s t, P s → step s = .next t → P t) {k : Nat} {s t : State}
    (hs : P s) (h : runSteps k s = .next t) : P t := by
  induction k generalizing s with
  | zero => exact Outcome.next.inj h ▸ hs
  | succ k ih =>
    obtain ⟨u, hu, hrest⟩ := runSteps_succ_cases h
    exact ih (hkeep s u hs hu) hrest

/-- Settles O10: the last request sent before a reset is over after it and stays over, so that an answer to it is a
stray one in every later state. -/
theorem resetAbandonsTheRun : Obligations.ResetAbandonsTheRun := by
  refine ⟨fun s ts hturns => ⟨step_reset hturns, fun k u a ts' hrun hu => ?_⟩,
    fun s n a ts hturns hstray => step_strayAnswer hturns hstray⟩
  have hover : RequestOver s.sentCount u :=
    runSteps_keeps (fun _ _ => RequestOver.step) (resetStep_requestOver { s with turns := ts }) hrun
  exact step_strayAnswer hu hover.notPending

/-! ### What a reset leaves -/

/-- Settles O9: the registers have their reset values by definition, and every place of an array the value it is
filled with. -/
theorem resetValues : Obligations.ResetValues := by
  intro c
  exact ⟨rfl, rfl, rfl, rfl, rfl, rfl, rfl, rfl, rfl, rfl, rfl, rfl, rfl, rfl, rfl,
    fun _ hp => List.getElem?_replicate_of_lt hp, fun _ hb => List.getElem?_replicate_of_lt hb, rfl,
    fun _ hk => List.getElem?_replicate_of_lt hk, rfl⟩

/-- Settles O55: the reset state of a legal configuration is legal, and the machine starts in a legal one. -/
theorem resetIsLegal : Obligations.ResetIsLegal :=
  ⟨fun _ => resetWith_legal, resetWith_legal (by decide)⟩

/-! ### The idle block -/

/-- Settles O11: with no turn listed or with its own, the block takes its own step, which does nothing when idle. -/
theorem idleBlockDoesNothing : Obligations.IdleBlockDoesNothing := by
  intro s hidle
  exact ⟨fun hturns => (step_noTurn hturns).trans (blockStep_idle hidle),
    fun _ hturns => (step_block hturns).trans (blockStep_idle hidle)⟩

end Sys2Proof.Machine

/-! PROOF. The decoder of packets, records and host requests alike (30_encoding.md R90 to R105): what it answers
to an instruction's encoding, and the host's turn, which runs the answer. -/

namespace Sys2Proof

/-- The packet of an instruction that has no record is a request of the host. -/
theorem encode_eq_request {c : Config} {i : Instr} (h : recordOf c i = none) : ∃ q, encode c i = .request q := by
  cases i with
  | cmd | cmdDelay | cmdData | cmdDataDelay | snoopPixfmt | snoopMadctl => cases h
  | _ => exact ⟨_, rfl⟩

/-- The request of a host operation is decoded to it, whatever its arguments (R103). -/
theorem decodeRequest_of_encode {c : Config} {i : Instr} {q : HostReq} (h : encode c i = .request q) :
    decodeRequest q = .ok i := by
  cases i with
  | cmd | cmdDelay | cmdData | cmdDataDelay | snoopPixfmt | snoopMadctl => cases h
  | _ =>
    cases h
    rfl

/-- Settles O1: a record's instruction is told by the record, which its bytes give back, and a host operation by
its code and arguments. -/
theorem decodeOfEncodeIsTheInstruction : Obligations.DecodeOfEncodeIsTheInstruction := by
  intro c i hi
  match hr : recordOf c i with
  | some r =>
    obtain ⟨-, -, hencode⟩ := classify_recordOf hi hr
    rw [hencode, decode_encodeRecord hi hr]
  | none =>
    obtain ⟨q, hencode⟩ := encode_eq_request hr
    rw [hencode, decode, decodeRequest_of_encode hencode]

/-- Settles O8: the words of an instruction are its encoding, but for the last, whose code is unknown. -/
theorem exampleWordsDecode : Obligations.ExampleWordsDecode :=
  have law := decodeOfEncodeIsTheInstruction Config.default
  ⟨law (.cmd 0x11) rfl, law (.cmdDelay 0x29 20) rfl, law (.cmdData 0xF0 [0xC3]) rfl,
    law (.cmdDataDelay 0xB0 [0x12, 0x34] 5) rfl, law (.snoopPixfmt [0x55] none) rfl,
    law (.snoopMadctl [0x48] (some 10)) rfl, law (.writeCell 0 3 1 2) rfl,
    Machine.decodeRequest_unknownCode (.inr (by decide))⟩

end Sys2Proof

namespace Sys2Proof.Machine

/-- Settles O14: the host's turn decodes the request, which gives the operation back, and runs it. -/
theorem stepRunsTheHostOperation : Obligations.StepRunsTheHostOperation := by
  intro s i q ts hencode hturns
  rw [step_host hturns, hostStep, decodeRequest_of_encode hencode]

end Sys2Proof.Machine
